-- ==== Sys2Proof/Word.lean ====
section
/-! DEFINITION. The two widths of the core: bytes (registers, memory cells) and words (addresses, PC);
00_scope.md R18 (`DATA_WIDTH`, `ADDR_WIDTH`). -/

namespace Sys2Proof

/-- An unsigned byte: A, X, Y, SP and every memory cell (R18, R40). -/
abbrev Byte := BitVec 8

/-- An unsigned 16-bit word: addresses and PC (R18, R40, R80). -/
abbrev Word := BitVec 16

end Sys2Proof
end

