-- ==== Sys2Proof/Config.lean ====
section
/-! DEFINITION. The OPEN parameters of the core (00_scope.md R18), with the spec's default values.
Claims may quantify over every `Config`; the fixed machine `step`, `State.reset` takes the defaults. -/

namespace Sys2Proof

/-- The six status flags, each one bit (10_state.md R46): Carry, Zero, InterruptDisable, Decimal,
Overflow, Negative. The Break and unused positions of the packed byte are no state. -/
structure Flags where
  c : Bool
  z : Bool
  i : Bool
  d : Bool
  v : Bool
  n : Bool
  deriving DecidableEq, Repr

/-- The parameters the spec leaves OPEN (R18). `leftOut` gives SUPPORTED by its complement: the
supported opcodes are the documented ones and `stopOpcode`, less those listed here (R153). -/
structure Config where
  resetA : Byte
  resetX : Byte
  resetY : Byte
  resetSp : Byte
  resetFlags : Flags
  resetCycles : Nat
  /-- RAM_INIT: the RAM bytes after reset, index 0 first (R456). -/
  ramInit : List Byte
  stopOpcode : Byte
  leftOut : List Byte
  deriving DecidableEq, Repr

/-- The spec's defaults of the OPEN parameters (R18; decisions D7 to D14). DESIGN CHOICE, unsafe: log
entries 1, 3 and 4. -/
def Config.default : Config where
  resetA := 0x00
  resetX := 0x00
  resetY := 0x00
  resetSp := 0xFD
  resetFlags := { c := false, z := false, i := true, d := false, v := false, n := false }
  resetCycles := 0
  ramInit := List.replicate 2048 0x00
  stopOpcode := 0x02
  leftOut := []

end Sys2Proof
end

