-- ==== Sys2Proof/Machine/Bits.lean ====
section
/-! DEFINITION. Byte and word helpers of the spec's notation: `hi`, `lo`, `{h, l}`, `sext_16`
(00_scope.md section 6). -/

namespace Sys2Proof

/-- `lo(w) = w[7:0]`. -/
def lo (w : Word) : Byte := w.extractLsb' 0 8

/-- `hi(w) = w[15:8]`. -/
def hi (w : Word) : Byte := w.extractLsb' 8 8

/-- `{h, l}`: the word `h * 256 + l`. -/
def word (h l : Byte) : Word := h ++ l

/-- The word of a zero-page address, `{0x00, z}` (R129). -/
def zeroPage (z : Byte) : Word := word 0x00 z

/-- `sext_16(b)`: the branch offset as a word (R138), the core's only sign extension (R140). -/
def sext16 (b : Byte) : Word := b.signExtend 16

/-- Two addresses lie on different pages when their high bytes differ (R133, R134, R137, R320). -/
def pageDiffers (p q : Word) : Bool := hi p != hi q

end Sys2Proof
end

