-- ==== Sys2Proof/Syntax.lean ====
section
/-! DEFINITION. The instructions, one constructor per row of spec/opcode_table.json: a mnemonic in one
addressing mode, carrying the operand byte or word the mode has (30_encoding.md R122). -/

namespace Sys2Proof

/-- The instructions of 30_encoding.md R150 and STOP (R151), in the order of the instruction files.
BRK's pad byte is skipped and not read (R364), so it is no operand. -/
inductive Instr where
  /-- LDA (zero page,X) (0xA1, R201). -/
  | ldaIndX (zp : Byte)
  /-- LDA zero page (0xA5, R201). -/
  | ldaZp (zp : Byte)
  /-- LDA immediate (0xA9, R201). -/
  | ldaImm (imm : Byte)
  /-- LDA absolute (0xAD, R201). -/
  | ldaAbs (addr : Word)
  /-- LDA (zero page),Y (0xB1, R201). -/
  | ldaIndY (zp : Byte)
  /-- LDA zero page,X (0xB5, R201). -/
  | ldaZpX (zp : Byte)
  /-- LDA absolute,Y (0xB9, R201). -/
  | ldaAbsY (base : Word)
  /-- LDA absolute,X (0xBD, R201). -/
  | ldaAbsX (base : Word)
  /-- LDX immediate (0xA2, R202). -/
  | ldxImm (imm : Byte)
  /-- LDX zero page (0xA6, R202). -/
  | ldxZp (zp : Byte)
  /-- LDX absolute (0xAE, R202). -/
  | ldxAbs (addr : Word)
  /-- LDX zero page,Y (0xB6, R202). -/
  | ldxZpY (zp : Byte)
  /-- LDX absolute,Y (0xBE, R202). -/
  | ldxAbsY (base : Word)
  /-- LDY immediate (0xA0, R203). -/
  | ldyImm (imm : Byte)
  /-- LDY zero page (0xA4, R203). -/
  | ldyZp (zp : Byte)
  /-- LDY absolute (0xAC, R203). -/
  | ldyAbs (addr : Word)
  /-- LDY zero page,X (0xB4, R203). -/
  | ldyZpX (zp : Byte)
  /-- LDY absolute,X (0xBC, R203). -/
  | ldyAbsX (base : Word)
  /-- STA (zero page,X) (0x81, R204). -/
  | staIndX (zp : Byte)
  /-- STA zero page (0x85, R204). -/
  | staZp (zp : Byte)
  /-- STA absolute (0x8D, R204). -/
  | staAbs (addr : Word)
  /-- STA (zero page),Y (0x91, R204). -/
  | staIndY (zp : Byte)
  /-- STA zero page,X (0x95, R204). -/
  | staZpX (zp : Byte)
  /-- STA absolute,Y (0x99, R204). -/
  | staAbsY (base : Word)
  /-- STA absolute,X (0x9D, R204). -/
  | staAbsX (base : Word)
  /-- STX zero page (0x86, R205). -/
  | stxZp (zp : Byte)
  /-- STX absolute (0x8E, R205). -/
  | stxAbs (addr : Word)
  /-- STX zero page,Y (0x96, R205). -/
  | stxZpY (zp : Byte)
  /-- STY zero page (0x84, R206). -/
  | styZp (zp : Byte)
  /-- STY absolute (0x8C, R206). -/
  | styAbs (addr : Word)
  /-- STY zero page,X (0x94, R206). -/
  | styZpX (zp : Byte)
  /-- ADC (zero page,X) (0x61, R223). -/
  | adcIndX (zp : Byte)
  /-- ADC zero page (0x65, R223). -/
  | adcZp (zp : Byte)
  /-- ADC immediate (0x69, R223). -/
  | adcImm (imm : Byte)
  /-- ADC absolute (0x6D, R223). -/
  | adcAbs (addr : Word)
  /-- ADC (zero page),Y (0x71, R223). -/
  | adcIndY (zp : Byte)
  /-- ADC zero page,X (0x75, R223). -/
  | adcZpX (zp : Byte)
  /-- ADC absolute,Y (0x79, R223). -/
  | adcAbsY (base : Word)
  /-- ADC absolute,X (0x7D, R223). -/
  | adcAbsX (base : Word)
  /-- SBC (zero page,X) (0xE1, R224). -/
  | sbcIndX (zp : Byte)
  /-- SBC zero page (0xE5, R224). -/
  | sbcZp (zp : Byte)
  /-- SBC immediate (0xE9, R224). -/
  | sbcImm (imm : Byte)
  /-- SBC absolute (0xED, R224). -/
  | sbcAbs (addr : Word)
  /-- SBC (zero page),Y (0xF1, R224). -/
  | sbcIndY (zp : Byte)
  /-- SBC zero page,X (0xF5, R224). -/
  | sbcZpX (zp : Byte)
  /-- SBC absolute,Y (0xF9, R224). -/
  | sbcAbsY (base : Word)
  /-- SBC absolute,X (0xFD, R224). -/
  | sbcAbsX (base : Word)
  /-- AND (zero page,X) (0x21, R240). -/
  | andIndX (zp : Byte)
  /-- AND zero page (0x25, R240). -/
  | andZp (zp : Byte)
  /-- AND immediate (0x29, R240). -/
  | andImm (imm : Byte)
  /-- AND absolute (0x2D, R240). -/
  | andAbs (addr : Word)
  /-- AND (zero page),Y (0x31, R240). -/
  | andIndY (zp : Byte)
  /-- AND zero page,X (0x35, R240). -/
  | andZpX (zp : Byte)
  /-- AND absolute,Y (0x39, R240). -/
  | andAbsY (base : Word)
  /-- AND absolute,X (0x3D, R240). -/
  | andAbsX (base : Word)
  /-- ORA (zero page,X) (0x01, R241). -/
  | oraIndX (zp : Byte)
  /-- ORA zero page (0x05, R241). -/
  | oraZp (zp : Byte)
  /-- ORA immediate (0x09, R241). -/
  | oraImm (imm : Byte)
  /-- ORA absolute (0x0D, R241). -/
  | oraAbs (addr : Word)
  /-- ORA (zero page),Y (0x11, R241). -/
  | oraIndY (zp : Byte)
  /-- ORA zero page,X (0x15, R241). -/
  | oraZpX (zp : Byte)
  /-- ORA absolute,Y (0x19, R241). -/
  | oraAbsY (base : Word)
  /-- ORA absolute,X (0x1D, R241). -/
  | oraAbsX (base : Word)
  /-- EOR (zero page,X) (0x41, R242). -/
  | eorIndX (zp : Byte)
  /-- EOR zero page (0x45, R242). -/
  | eorZp (zp : Byte)
  /-- EOR immediate (0x49, R242). -/
  | eorImm (imm : Byte)
  /-- EOR absolute (0x4D, R242). -/
  | eorAbs (addr : Word)
  /-- EOR (zero page),Y (0x51, R242). -/
  | eorIndY (zp : Byte)
  /-- EOR zero page,X (0x55, R242). -/
  | eorZpX (zp : Byte)
  /-- EOR absolute,Y (0x59, R242). -/
  | eorAbsY (base : Word)
  /-- EOR absolute,X (0x5D, R242). -/
  | eorAbsX (base : Word)
  /-- ASL zero page (0x06, R261). -/
  | aslZp (zp : Byte)
  /-- ASL accumulator (0x0A, R261). -/
  | aslAcc
  /-- ASL absolute (0x0E, R261). -/
  | aslAbs (addr : Word)
  /-- ASL zero page,X (0x16, R261). -/
  | aslZpX (zp : Byte)
  /-- ASL absolute,X (0x1E, R261). -/
  | aslAbsX (base : Word)
  /-- LSR zero page (0x46, R262). -/
  | lsrZp (zp : Byte)
  /-- LSR accumulator (0x4A, R262). -/
  | lsrAcc
  /-- LSR absolute (0x4E, R262). -/
  | lsrAbs (addr : Word)
  /-- LSR zero page,X (0x56, R262). -/
  | lsrZpX (zp : Byte)
  /-- LSR absolute,X (0x5E, R262). -/
  | lsrAbsX (base : Word)
  /-- ROL zero page (0x26, R263). -/
  | rolZp (zp : Byte)
  /-- ROL accumulator (0x2A, R263). -/
  | rolAcc
  /-- ROL absolute (0x2E, R263). -/
  | rolAbs (addr : Word)
  /-- ROL zero page,X (0x36, R263). -/
  | rolZpX (zp : Byte)
  /-- ROL absolute,X (0x3E, R263). -/
  | rolAbsX (base : Word)
  /-- ROR zero page (0x66, R264). -/
  | rorZp (zp : Byte)
  /-- ROR accumulator (0x6A, R264). -/
  | rorAcc
  /-- ROR absolute (0x6E, R264). -/
  | rorAbs (addr : Word)
  /-- ROR zero page,X (0x76, R264). -/
  | rorZpX (zp : Byte)
  /-- ROR absolute,X (0x7E, R264). -/
  | rorAbsX (base : Word)
  /-- INC zero page (0xE6, R280). -/
  | incZp (zp : Byte)
  /-- INC absolute (0xEE, R280). -/
  | incAbs (addr : Word)
  /-- INC zero page,X (0xF6, R280). -/
  | incZpX (zp : Byte)
  /-- INC absolute,X (0xFE, R280). -/
  | incAbsX (base : Word)
  /-- DEC zero page (0xC6, R281). -/
  | decZp (zp : Byte)
  /-- DEC absolute (0xCE, R281). -/
  | decAbs (addr : Word)
  /-- DEC zero page,X (0xD6, R281). -/
  | decZpX (zp : Byte)
  /-- DEC absolute,X (0xDE, R281). -/
  | decAbsX (base : Word)
  /-- INX implied (0xE8, R282). -/
  | inx
  /-- INY implied (0xC8, R283). -/
  | iny
  /-- DEX implied (0xCA, R284). -/
  | dex
  /-- DEY implied (0x88, R285). -/
  | dey
  /-- CMP (zero page,X) (0xC1, R301). -/
  | cmpIndX (zp : Byte)
  /-- CMP zero page (0xC5, R301). -/
  | cmpZp (zp : Byte)
  /-- CMP immediate (0xC9, R301). -/
  | cmpImm (imm : Byte)
  /-- CMP absolute (0xCD, R301). -/
  | cmpAbs (addr : Word)
  /-- CMP (zero page),Y (0xD1, R301). -/
  | cmpIndY (zp : Byte)
  /-- CMP zero page,X (0xD5, R301). -/
  | cmpZpX (zp : Byte)
  /-- CMP absolute,Y (0xD9, R301). -/
  | cmpAbsY (base : Word)
  /-- CMP absolute,X (0xDD, R301). -/
  | cmpAbsX (base : Word)
  /-- CPX immediate (0xE0, R302). -/
  | cpxImm (imm : Byte)
  /-- CPX zero page (0xE4, R302). -/
  | cpxZp (zp : Byte)
  /-- CPX absolute (0xEC, R302). -/
  | cpxAbs (addr : Word)
  /-- CPY immediate (0xC0, R303). -/
  | cpyImm (imm : Byte)
  /-- CPY zero page (0xC4, R303). -/
  | cpyZp (zp : Byte)
  /-- CPY absolute (0xCC, R303). -/
  | cpyAbs (addr : Word)
  /-- BIT zero page (0x24, R304). -/
  | bitZp (zp : Byte)
  /-- BIT absolute (0x2C, R304). -/
  | bitAbs (addr : Word)
  /-- BPL relative (0x10, R321). -/
  | bpl (off : Byte)
  /-- BMI relative (0x30, R322). -/
  | bmi (off : Byte)
  /-- BVC relative (0x50, R323). -/
  | bvc (off : Byte)
  /-- BVS relative (0x70, R324). -/
  | bvs (off : Byte)
  /-- BCC relative (0x90, R325). -/
  | bcc (off : Byte)
  /-- BCS relative (0xB0, R326). -/
  | bcs (off : Byte)
  /-- BNE relative (0xD0, R327). -/
  | bne (off : Byte)
  /-- BEQ relative (0xF0, R328). -/
  | beq (off : Byte)
  /-- PHA implied (0x48, R342). -/
  | pha
  /-- PLA implied (0x68, R343). -/
  | pla
  /-- PHP implied (0x08, R344). -/
  | php
  /-- PLP implied (0x28, R345). -/
  | plp
  /-- JSR absolute (0x20, R360). -/
  | jsrAbs (addr : Word)
  /-- RTS implied (0x60, R361). -/
  | rts
  /-- BRK break (0x00, R364). -/
  | brk
  /-- RTI implied (0x40, R365). -/
  | rti
  /-- JMP absolute (0x4C, R366). -/
  | jmpAbs (addr : Word)
  /-- JMP indirect (0x6C, R367). -/
  | jmpInd (ptr : Word)
  /-- TAX implied (0xAA, R380). -/
  | tax
  /-- TXA implied (0x8A, R381). -/
  | txa
  /-- TAY implied (0xA8, R382). -/
  | tay
  /-- TYA implied (0x98, R383). -/
  | tya
  /-- TXS implied (0x9A, R384). -/
  | txs
  /-- TSX implied (0xBA, R385). -/
  | tsx
  /-- SEC implied (0x38, R386). -/
  | sec
  /-- CLC implied (0x18, R387). -/
  | clc
  /-- SEI implied (0x78, R388). -/
  | sei
  /-- CLI implied (0x58, R389). -/
  | cli
  /-- SED implied (0xF8, R390). -/
  | sed
  /-- CLD implied (0xD8, R391). -/
  | cld
  /-- CLV implied (0xB8, R392). -/
  | clv
  /-- NOP implied (0xEA, R393). -/
  | nop
  /-- STOP stop (STOP_OPCODE, R394). -/
  | stop
  deriving DecidableEq, Repr

/-- The 56 mnemonics of the documented set and STOP (00_scope.md R1, 49_transfer_flag_misc.md R394). -/
inductive Mnemonic where
  | lda | ldx | ldy | sta | stx | sty | adc | sbc | and | ora
  | eor | asl | lsr | rol | ror | inc | dec | inx | iny | dex
  | dey | cmp | cpx | cpy | bit | bpl | bmi | bvc | bvs | bcc
  | bcs | bne | beq | pha | pla | php | plp | jsr | rts | brk
  | rti | jmp | tax | txa | tay | tya | txs | tsx | sec | clc
  | sei | cli | sed | cld | clv | nop | stop
  deriving DecidableEq, Repr

/-- The operand of an instruction in its addressing mode: the mode tag and the operand bytes of
30_encoding.md R122. -/
inductive Arg where
  | imp
  | acc
  | imm (b : Byte)
  | zp (z : Byte)
  | zpx (z : Byte)
  | zpy (z : Byte)
  | abs (w : Word)
  | absx (w : Word)
  | absy (w : Word)
  | ind (w : Word)
  | indx (z : Byte)
  | indy (z : Byte)
  | rel (off : Byte)
  | brk
  | stop
  deriving DecidableEq, Repr

/-- The mode tags of R122. -/
inductive Mode where
  | imp | acc | imm | zp | zpx | zpy | abs | absx | absy | ind | indx | indy | rel | brk | stop
  deriving DecidableEq, Repr

end Sys2Proof
end

