-- ==== Sys2Proof/Decode.lean ====
section
/-! DEFINITION. The decoder (30_encoding.md R120 to R123, R150 to R154; 10_state.md R59) and after it the
encoder, both written from the opcode map of R150. -/

namespace Sys2Proof

/-- What the decoder makes of an opcode byte: the instruction, or what it becomes once its operand bytes
are read (R121, R122). BRK is `padded`: its second byte is skipped and not read (R364). -/
inductive Form where
  | bare (i : Instr)
  | padded (i : Instr)
  | byte (f : Byte → Instr)
  | word (f : Word → Instr)

/-- Why the decoder refuses a byte string. -/
inductive Reject where
  /-- The opcode byte is not in SUPPORTED (R152, R153); a step then halts the core (R395). -/
  | unknownOpcode (op : Byte)
  /-- The byte string ends before the instruction does; a step never meets this (PC wraps, R44). -/
  | truncated
  deriving DecidableEq, Repr

/-- The decoder's answer: an instruction and the bytes after it, or a named rejection. -/
inductive Decoded where
  | ok (i : Instr) (rest : List Byte)
  | reject (r : Reject)
  deriving DecidableEq, Repr

/-- Row 0x of the opcode map (R150). -/
def opcodeRow0 : List (Byte × Form) :=
  [(0x00, .padded .brk), (0x01, .byte .oraIndX), (0x05, .byte .oraZp), (0x06, .byte .aslZp),
   (0x08, .bare .php), (0x09, .byte .oraImm), (0x0A, .bare .aslAcc), (0x0D, .word .oraAbs),
   (0x0E, .word .aslAbs)]

/-- Row 1x of the opcode map (R150). -/
def opcodeRow1 : List (Byte × Form) :=
  [(0x10, .byte .bpl), (0x11, .byte .oraIndY), (0x15, .byte .oraZpX), (0x16, .byte .aslZpX),
   (0x18, .bare .clc), (0x19, .word .oraAbsY), (0x1D, .word .oraAbsX), (0x1E, .word .aslAbsX)]

/-- Row 2x of the opcode map (R150). -/
def opcodeRow2 : List (Byte × Form) :=
  [(0x20, .word .jsrAbs), (0x21, .byte .andIndX), (0x24, .byte .bitZp), (0x25, .byte .andZp),
   (0x26, .byte .rolZp), (0x28, .bare .plp), (0x29, .byte .andImm), (0x2A, .bare .rolAcc),
   (0x2C, .word .bitAbs), (0x2D, .word .andAbs), (0x2E, .word .rolAbs)]

/-- Row 3x of the opcode map (R150). -/
def opcodeRow3 : List (Byte × Form) :=
  [(0x30, .byte .bmi), (0x31, .byte .andIndY), (0x35, .byte .andZpX), (0x36, .byte .rolZpX),
   (0x38, .bare .sec), (0x39, .word .andAbsY), (0x3D, .word .andAbsX), (0x3E, .word .rolAbsX)]

/-- Row 4x of the opcode map (R150). -/
def opcodeRow4 : List (Byte × Form) :=
  [(0x40, .bare .rti), (0x41, .byte .eorIndX), (0x45, .byte .eorZp), (0x46, .byte .lsrZp),
   (0x48, .bare .pha), (0x49, .byte .eorImm), (0x4A, .bare .lsrAcc), (0x4C, .word .jmpAbs),
   (0x4D, .word .eorAbs), (0x4E, .word .lsrAbs)]

/-- Row 5x of the opcode map (R150). -/
def opcodeRow5 : List (Byte × Form) :=
  [(0x50, .byte .bvc), (0x51, .byte .eorIndY), (0x55, .byte .eorZpX), (0x56, .byte .lsrZpX),
   (0x58, .bare .cli), (0x59, .word .eorAbsY), (0x5D, .word .eorAbsX), (0x5E, .word .lsrAbsX)]

/-- Row 6x of the opcode map (R150). -/
def opcodeRow6 : List (Byte × Form) :=
  [(0x60, .bare .rts), (0x61, .byte .adcIndX), (0x65, .byte .adcZp), (0x66, .byte .rorZp),
   (0x68, .bare .pla), (0x69, .byte .adcImm), (0x6A, .bare .rorAcc), (0x6C, .word .jmpInd),
   (0x6D, .word .adcAbs), (0x6E, .word .rorAbs)]

/-- Row 7x of the opcode map (R150). -/
def opcodeRow7 : List (Byte × Form) :=
  [(0x70, .byte .bvs), (0x71, .byte .adcIndY), (0x75, .byte .adcZpX), (0x76, .byte .rorZpX),
   (0x78, .bare .sei), (0x79, .word .adcAbsY), (0x7D, .word .adcAbsX), (0x7E, .word .rorAbsX)]

/-- Row 8x of the opcode map (R150). -/
def opcodeRow8 : List (Byte × Form) :=
  [(0x81, .byte .staIndX), (0x84, .byte .styZp), (0x85, .byte .staZp), (0x86, .byte .stxZp),
   (0x88, .bare .dey), (0x8A, .bare .txa), (0x8C, .word .styAbs), (0x8D, .word .staAbs),
   (0x8E, .word .stxAbs)]

/-- Row 9x of the opcode map (R150). -/
def opcodeRow9 : List (Byte × Form) :=
  [(0x90, .byte .bcc), (0x91, .byte .staIndY), (0x94, .byte .styZpX), (0x95, .byte .staZpX),
   (0x96, .byte .stxZpY), (0x98, .bare .tya), (0x99, .word .staAbsY), (0x9A, .bare .txs),
   (0x9D, .word .staAbsX)]

/-- Row Ax of the opcode map (R150). -/
def opcodeRowA : List (Byte × Form) :=
  [(0xA0, .byte .ldyImm), (0xA1, .byte .ldaIndX), (0xA2, .byte .ldxImm), (0xA4, .byte .ldyZp),
   (0xA5, .byte .ldaZp), (0xA6, .byte .ldxZp), (0xA8, .bare .tay), (0xA9, .byte .ldaImm),
   (0xAA, .bare .tax), (0xAC, .word .ldyAbs), (0xAD, .word .ldaAbs), (0xAE, .word .ldxAbs)]

/-- Row Bx of the opcode map (R150). -/
def opcodeRowB : List (Byte × Form) :=
  [(0xB0, .byte .bcs), (0xB1, .byte .ldaIndY), (0xB4, .byte .ldyZpX), (0xB5, .byte .ldaZpX),
   (0xB6, .byte .ldxZpY), (0xB8, .bare .clv), (0xB9, .word .ldaAbsY), (0xBA, .bare .tsx),
   (0xBC, .word .ldyAbsX), (0xBD, .word .ldaAbsX), (0xBE, .word .ldxAbsY)]

/-- Row Cx of the opcode map (R150). -/
def opcodeRowC : List (Byte × Form) :=
  [(0xC0, .byte .cpyImm), (0xC1, .byte .cmpIndX), (0xC4, .byte .cpyZp), (0xC5, .byte .cmpZp),
   (0xC6, .byte .decZp), (0xC8, .bare .iny), (0xC9, .byte .cmpImm), (0xCA, .bare .dex),
   (0xCC, .word .cpyAbs), (0xCD, .word .cmpAbs), (0xCE, .word .decAbs)]

/-- Row Dx of the opcode map (R150). -/
def opcodeRowD : List (Byte × Form) :=
  [(0xD0, .byte .bne), (0xD1, .byte .cmpIndY), (0xD5, .byte .cmpZpX), (0xD6, .byte .decZpX),
   (0xD8, .bare .cld), (0xD9, .word .cmpAbsY), (0xDD, .word .cmpAbsX), (0xDE, .word .decAbsX)]

/-- Row Ex of the opcode map (R150). -/
def opcodeRowE : List (Byte × Form) :=
  [(0xE0, .byte .cpxImm), (0xE1, .byte .sbcIndX), (0xE4, .byte .cpxZp), (0xE5, .byte .sbcZp),
   (0xE6, .byte .incZp), (0xE8, .bare .inx), (0xE9, .byte .sbcImm), (0xEA, .bare .nop),
   (0xEC, .word .cpxAbs), (0xED, .word .sbcAbs), (0xEE, .word .incAbs)]

/-- Row Fx of the opcode map (R150). -/
def opcodeRowF : List (Byte × Form) :=
  [(0xF0, .byte .beq), (0xF1, .byte .sbcIndY), (0xF5, .byte .sbcZpX), (0xF6, .byte .incZpX),
   (0xF8, .bare .sed), (0xF9, .word .sbcAbsY), (0xFD, .word .sbcAbsX), (0xFE, .word .incAbsX)]

/-- The opcode map by high nibble (R150): 151 documented opcodes. -/
def opcodeMap : List (List (Byte × Form)) :=
  [opcodeRow0, opcodeRow1, opcodeRow2, opcodeRow3, opcodeRow4, opcodeRow5, opcodeRow6, opcodeRow7,
    opcodeRow8, opcodeRow9, opcodeRowA, opcodeRowB, opcodeRowC, opcodeRowD, opcodeRowE, opcodeRowF]

/-- The entry of a documented opcode; none for the 105 unassigned bytes (R152). -/
def documentedForm (op : Byte) : Option Form := (opcodeMap.getD (op.toNat / 16) []).lookup op

/-- The byte is one of the 151 documented opcodes (R150). -/
def documented (op : Byte) : Bool := (documentedForm op).isSome

/-- A valid configuration's STOP_OPCODE is an unassigned byte (R151, D31). -/
def Config.valid (cfg : Config) : Bool := !documented cfg.stopOpcode

/-- The byte is in SUPPORTED (R153). -/
def Config.supports (cfg : Config) (op : Byte) : Bool :=
  (documented op || op == cfg.stopOpcode) && !cfg.leftOut.contains op

/-- `decode(op)` of R59: the descriptor of a supported opcode, none for an unknown one. -/
def Config.decodeOpcode (cfg : Config) (op : Byte) : Option Form :=
  if cfg.leftOut.contains op then none
  else if op = cfg.stopOpcode then some (.bare .stop)
  else documentedForm op

/-- The instruction at the head of a byte string (R120 to R123): little-endian two-byte operands. BRK's
pad byte is passed over, whatever it is and whether or not it is there. -/
def decode (cfg : Config) : List Byte → Decoded
  | [] => .reject .truncated
  | op :: rest =>
    match cfg.decodeOpcode op with
    | none => .reject (.unknownOpcode op)
    | some (.bare i) => .ok i rest
    | some (.padded i) => .ok i (rest.drop 1)
    | some (.byte f) =>
      match rest with
      | b :: rest' => .ok (f b) rest'
      | [] => .reject .truncated
    | some (.word f) =>
      match rest with
      | l :: h :: rest' => .ok (f (word h l)) rest'
      | _ => .reject .truncated

/-- The mnemonic of an instruction (descriptor field of R11). -/
def Instr.mnemonic : Instr → Mnemonic
  | .ldaIndX _ => .lda
  | .ldaZp _ => .lda
  | .ldaImm _ => .lda
  | .ldaAbs _ => .lda
  | .ldaIndY _ => .lda
  | .ldaZpX _ => .lda
  | .ldaAbsY _ => .lda
  | .ldaAbsX _ => .lda
  | .ldxImm _ => .ldx
  | .ldxZp _ => .ldx
  | .ldxAbs _ => .ldx
  | .ldxZpY _ => .ldx
  | .ldxAbsY _ => .ldx
  | .ldyImm _ => .ldy
  | .ldyZp _ => .ldy
  | .ldyAbs _ => .ldy
  | .ldyZpX _ => .ldy
  | .ldyAbsX _ => .ldy
  | .staIndX _ => .sta
  | .staZp _ => .sta
  | .staAbs _ => .sta
  | .staIndY _ => .sta
  | .staZpX _ => .sta
  | .staAbsY _ => .sta
  | .staAbsX _ => .sta
  | .stxZp _ => .stx
  | .stxAbs _ => .stx
  | .stxZpY _ => .stx
  | .styZp _ => .sty
  | .styAbs _ => .sty
  | .styZpX _ => .sty
  | .adcIndX _ => .adc
  | .adcZp _ => .adc
  | .adcImm _ => .adc
  | .adcAbs _ => .adc
  | .adcIndY _ => .adc
  | .adcZpX _ => .adc
  | .adcAbsY _ => .adc
  | .adcAbsX _ => .adc
  | .sbcIndX _ => .sbc
  | .sbcZp _ => .sbc
  | .sbcImm _ => .sbc
  | .sbcAbs _ => .sbc
  | .sbcIndY _ => .sbc
  | .sbcZpX _ => .sbc
  | .sbcAbsY _ => .sbc
  | .sbcAbsX _ => .sbc
  | .andIndX _ => .and
  | .andZp _ => .and
  | .andImm _ => .and
  | .andAbs _ => .and
  | .andIndY _ => .and
  | .andZpX _ => .and
  | .andAbsY _ => .and
  | .andAbsX _ => .and
  | .oraIndX _ => .ora
  | .oraZp _ => .ora
  | .oraImm _ => .ora
  | .oraAbs _ => .ora
  | .oraIndY _ => .ora
  | .oraZpX _ => .ora
  | .oraAbsY _ => .ora
  | .oraAbsX _ => .ora
  | .eorIndX _ => .eor
  | .eorZp _ => .eor
  | .eorImm _ => .eor
  | .eorAbs _ => .eor
  | .eorIndY _ => .eor
  | .eorZpX _ => .eor
  | .eorAbsY _ => .eor
  | .eorAbsX _ => .eor
  | .aslZp _ => .asl
  | .aslAcc => .asl
  | .aslAbs _ => .asl
  | .aslZpX _ => .asl
  | .aslAbsX _ => .asl
  | .lsrZp _ => .lsr
  | .lsrAcc => .lsr
  | .lsrAbs _ => .lsr
  | .lsrZpX _ => .lsr
  | .lsrAbsX _ => .lsr
  | .rolZp _ => .rol
  | .rolAcc => .rol
  | .rolAbs _ => .rol
  | .rolZpX _ => .rol
  | .rolAbsX _ => .rol
  | .rorZp _ => .ror
  | .rorAcc => .ror
  | .rorAbs _ => .ror
  | .rorZpX _ => .ror
  | .rorAbsX _ => .ror
  | .incZp _ => .inc
  | .incAbs _ => .inc
  | .incZpX _ => .inc
  | .incAbsX _ => .inc
  | .decZp _ => .dec
  | .decAbs _ => .dec
  | .decZpX _ => .dec
  | .decAbsX _ => .dec
  | .inx => .inx
  | .iny => .iny
  | .dex => .dex
  | .dey => .dey
  | .cmpIndX _ => .cmp
  | .cmpZp _ => .cmp
  | .cmpImm _ => .cmp
  | .cmpAbs _ => .cmp
  | .cmpIndY _ => .cmp
  | .cmpZpX _ => .cmp
  | .cmpAbsY _ => .cmp
  | .cmpAbsX _ => .cmp
  | .cpxImm _ => .cpx
  | .cpxZp _ => .cpx
  | .cpxAbs _ => .cpx
  | .cpyImm _ => .cpy
  | .cpyZp _ => .cpy
  | .cpyAbs _ => .cpy
  | .bitZp _ => .bit
  | .bitAbs _ => .bit
  | .bpl _ => .bpl
  | .bmi _ => .bmi
  | .bvc _ => .bvc
  | .bvs _ => .bvs
  | .bcc _ => .bcc
  | .bcs _ => .bcs
  | .bne _ => .bne
  | .beq _ => .beq
  | .pha => .pha
  | .pla => .pla
  | .php => .php
  | .plp => .plp
  | .jsrAbs _ => .jsr
  | .rts => .rts
  | .brk => .brk
  | .rti => .rti
  | .jmpAbs _ => .jmp
  | .jmpInd _ => .jmp
  | .tax => .tax
  | .txa => .txa
  | .tay => .tay
  | .tya => .tya
  | .txs => .txs
  | .tsx => .tsx
  | .sec => .sec
  | .clc => .clc
  | .sei => .sei
  | .cli => .cli
  | .sed => .sed
  | .cld => .cld
  | .clv => .clv
  | .nop => .nop
  | .stop => .stop

/-- The addressing mode of an instruction with its operand bytes (descriptor field of R11; R122). -/
def Instr.arg : Instr → Arg
  | .ldaIndX zp => .indx zp
  | .ldaZp zp => .zp zp
  | .ldaImm imm => .imm imm
  | .ldaAbs addr => .abs addr
  | .ldaIndY zp => .indy zp
  | .ldaZpX zp => .zpx zp
  | .ldaAbsY base => .absy base
  | .ldaAbsX base => .absx base
  | .ldxImm imm => .imm imm
  | .ldxZp zp => .zp zp
  | .ldxAbs addr => .abs addr
  | .ldxZpY zp => .zpy zp
  | .ldxAbsY base => .absy base
  | .ldyImm imm => .imm imm
  | .ldyZp zp => .zp zp
  | .ldyAbs addr => .abs addr
  | .ldyZpX zp => .zpx zp
  | .ldyAbsX base => .absx base
  | .staIndX zp => .indx zp
  | .staZp zp => .zp zp
  | .staAbs addr => .abs addr
  | .staIndY zp => .indy zp
  | .staZpX zp => .zpx zp
  | .staAbsY base => .absy base
  | .staAbsX base => .absx base
  | .stxZp zp => .zp zp
  | .stxAbs addr => .abs addr
  | .stxZpY zp => .zpy zp
  | .styZp zp => .zp zp
  | .styAbs addr => .abs addr
  | .styZpX zp => .zpx zp
  | .adcIndX zp => .indx zp
  | .adcZp zp => .zp zp
  | .adcImm imm => .imm imm
  | .adcAbs addr => .abs addr
  | .adcIndY zp => .indy zp
  | .adcZpX zp => .zpx zp
  | .adcAbsY base => .absy base
  | .adcAbsX base => .absx base
  | .sbcIndX zp => .indx zp
  | .sbcZp zp => .zp zp
  | .sbcImm imm => .imm imm
  | .sbcAbs addr => .abs addr
  | .sbcIndY zp => .indy zp
  | .sbcZpX zp => .zpx zp
  | .sbcAbsY base => .absy base
  | .sbcAbsX base => .absx base
  | .andIndX zp => .indx zp
  | .andZp zp => .zp zp
  | .andImm imm => .imm imm
  | .andAbs addr => .abs addr
  | .andIndY zp => .indy zp
  | .andZpX zp => .zpx zp
  | .andAbsY base => .absy base
  | .andAbsX base => .absx base
  | .oraIndX zp => .indx zp
  | .oraZp zp => .zp zp
  | .oraImm imm => .imm imm
  | .oraAbs addr => .abs addr
  | .oraIndY zp => .indy zp
  | .oraZpX zp => .zpx zp
  | .oraAbsY base => .absy base
  | .oraAbsX base => .absx base
  | .eorIndX zp => .indx zp
  | .eorZp zp => .zp zp
  | .eorImm imm => .imm imm
  | .eorAbs addr => .abs addr
  | .eorIndY zp => .indy zp
  | .eorZpX zp => .zpx zp
  | .eorAbsY base => .absy base
  | .eorAbsX base => .absx base
  | .aslZp zp => .zp zp
  | .aslAcc => .acc
  | .aslAbs addr => .abs addr
  | .aslZpX zp => .zpx zp
  | .aslAbsX base => .absx base
  | .lsrZp zp => .zp zp
  | .lsrAcc => .acc
  | .lsrAbs addr => .abs addr
  | .lsrZpX zp => .zpx zp
  | .lsrAbsX base => .absx base
  | .rolZp zp => .zp zp
  | .rolAcc => .acc
  | .rolAbs addr => .abs addr
  | .rolZpX zp => .zpx zp
  | .rolAbsX base => .absx base
  | .rorZp zp => .zp zp
  | .rorAcc => .acc
  | .rorAbs addr => .abs addr
  | .rorZpX zp => .zpx zp
  | .rorAbsX base => .absx base
  | .incZp zp => .zp zp
  | .incAbs addr => .abs addr
  | .incZpX zp => .zpx zp
  | .incAbsX base => .absx base
  | .decZp zp => .zp zp
  | .decAbs addr => .abs addr
  | .decZpX zp => .zpx zp
  | .decAbsX base => .absx base
  | .inx => .imp
  | .iny => .imp
  | .dex => .imp
  | .dey => .imp
  | .cmpIndX zp => .indx zp
  | .cmpZp zp => .zp zp
  | .cmpImm imm => .imm imm
  | .cmpAbs addr => .abs addr
  | .cmpIndY zp => .indy zp
  | .cmpZpX zp => .zpx zp
  | .cmpAbsY base => .absy base
  | .cmpAbsX base => .absx base
  | .cpxImm imm => .imm imm
  | .cpxZp zp => .zp zp
  | .cpxAbs addr => .abs addr
  | .cpyImm imm => .imm imm
  | .cpyZp zp => .zp zp
  | .cpyAbs addr => .abs addr
  | .bitZp zp => .zp zp
  | .bitAbs addr => .abs addr
  | .bpl off => .rel off
  | .bmi off => .rel off
  | .bvc off => .rel off
  | .bvs off => .rel off
  | .bcc off => .rel off
  | .bcs off => .rel off
  | .bne off => .rel off
  | .beq off => .rel off
  | .pha => .imp
  | .pla => .imp
  | .php => .imp
  | .plp => .imp
  | .jsrAbs addr => .abs addr
  | .rts => .imp
  | .brk => .brk
  | .rti => .imp
  | .jmpAbs addr => .abs addr
  | .jmpInd ptr => .ind ptr
  | .tax => .imp
  | .txa => .imp
  | .tay => .imp
  | .tya => .imp
  | .txs => .imp
  | .tsx => .imp
  | .sec => .imp
  | .clc => .imp
  | .sei => .imp
  | .cli => .imp
  | .sed => .imp
  | .cld => .imp
  | .clv => .imp
  | .nop => .imp
  | .stop => .stop

/-- The opcode byte of an instruction (R150; STOP's is the parameter STOP_OPCODE, R151). -/
def Instr.opcode (cfg : Config) : Instr → Byte
  | .ldaIndX _ => 0xA1
  | .ldaZp _ => 0xA5
  | .ldaImm _ => 0xA9
  | .ldaAbs _ => 0xAD
  | .ldaIndY _ => 0xB1
  | .ldaZpX _ => 0xB5
  | .ldaAbsY _ => 0xB9
  | .ldaAbsX _ => 0xBD
  | .ldxImm _ => 0xA2
  | .ldxZp _ => 0xA6
  | .ldxAbs _ => 0xAE
  | .ldxZpY _ => 0xB6
  | .ldxAbsY _ => 0xBE
  | .ldyImm _ => 0xA0
  | .ldyZp _ => 0xA4
  | .ldyAbs _ => 0xAC
  | .ldyZpX _ => 0xB4
  | .ldyAbsX _ => 0xBC
  | .staIndX _ => 0x81
  | .staZp _ => 0x85
  | .staAbs _ => 0x8D
  | .staIndY _ => 0x91
  | .staZpX _ => 0x95
  | .staAbsY _ => 0x99
  | .staAbsX _ => 0x9D
  | .stxZp _ => 0x86
  | .stxAbs _ => 0x8E
  | .stxZpY _ => 0x96
  | .styZp _ => 0x84
  | .styAbs _ => 0x8C
  | .styZpX _ => 0x94
  | .adcIndX _ => 0x61
  | .adcZp _ => 0x65
  | .adcImm _ => 0x69
  | .adcAbs _ => 0x6D
  | .adcIndY _ => 0x71
  | .adcZpX _ => 0x75
  | .adcAbsY _ => 0x79
  | .adcAbsX _ => 0x7D
  | .sbcIndX _ => 0xE1
  | .sbcZp _ => 0xE5
  | .sbcImm _ => 0xE9
  | .sbcAbs _ => 0xED
  | .sbcIndY _ => 0xF1
  | .sbcZpX _ => 0xF5
  | .sbcAbsY _ => 0xF9
  | .sbcAbsX _ => 0xFD
  | .andIndX _ => 0x21
  | .andZp _ => 0x25
  | .andImm _ => 0x29
  | .andAbs _ => 0x2D
  | .andIndY _ => 0x31
  | .andZpX _ => 0x35
  | .andAbsY _ => 0x39
  | .andAbsX _ => 0x3D
  | .oraIndX _ => 0x01
  | .oraZp _ => 0x05
  | .oraImm _ => 0x09
  | .oraAbs _ => 0x0D
  | .oraIndY _ => 0x11
  | .oraZpX _ => 0x15
  | .oraAbsY _ => 0x19
  | .oraAbsX _ => 0x1D
  | .eorIndX _ => 0x41
  | .eorZp _ => 0x45
  | .eorImm _ => 0x49
  | .eorAbs _ => 0x4D
  | .eorIndY _ => 0x51
  | .eorZpX _ => 0x55
  | .eorAbsY _ => 0x59
  | .eorAbsX _ => 0x5D
  | .aslZp _ => 0x06
  | .aslAcc => 0x0A
  | .aslAbs _ => 0x0E
  | .aslZpX _ => 0x16
  | .aslAbsX _ => 0x1E
  | .lsrZp _ => 0x46
  | .lsrAcc => 0x4A
  | .lsrAbs _ => 0x4E
  | .lsrZpX _ => 0x56
  | .lsrAbsX _ => 0x5E
  | .rolZp _ => 0x26
  | .rolAcc => 0x2A
  | .rolAbs _ => 0x2E
  | .rolZpX _ => 0x36
  | .rolAbsX _ => 0x3E
  | .rorZp _ => 0x66
  | .rorAcc => 0x6A
  | .rorAbs _ => 0x6E
  | .rorZpX _ => 0x76
  | .rorAbsX _ => 0x7E
  | .incZp _ => 0xE6
  | .incAbs _ => 0xEE
  | .incZpX _ => 0xF6
  | .incAbsX _ => 0xFE
  | .decZp _ => 0xC6
  | .decAbs _ => 0xCE
  | .decZpX _ => 0xD6
  | .decAbsX _ => 0xDE
  | .inx => 0xE8
  | .iny => 0xC8
  | .dex => 0xCA
  | .dey => 0x88
  | .cmpIndX _ => 0xC1
  | .cmpZp _ => 0xC5
  | .cmpImm _ => 0xC9
  | .cmpAbs _ => 0xCD
  | .cmpIndY _ => 0xD1
  | .cmpZpX _ => 0xD5
  | .cmpAbsY _ => 0xD9
  | .cmpAbsX _ => 0xDD
  | .cpxImm _ => 0xE0
  | .cpxZp _ => 0xE4
  | .cpxAbs _ => 0xEC
  | .cpyImm _ => 0xC0
  | .cpyZp _ => 0xC4
  | .cpyAbs _ => 0xCC
  | .bitZp _ => 0x24
  | .bitAbs _ => 0x2C
  | .bpl _ => 0x10
  | .bmi _ => 0x30
  | .bvc _ => 0x50
  | .bvs _ => 0x70
  | .bcc _ => 0x90
  | .bcs _ => 0xB0
  | .bne _ => 0xD0
  | .beq _ => 0xF0
  | .pha => 0x48
  | .pla => 0x68
  | .php => 0x08
  | .plp => 0x28
  | .jsrAbs _ => 0x20
  | .rts => 0x60
  | .brk => 0x00
  | .rti => 0x40
  | .jmpAbs _ => 0x4C
  | .jmpInd _ => 0x6C
  | .tax => 0xAA
  | .txa => 0x8A
  | .tay => 0xA8
  | .tya => 0x98
  | .txs => 0x9A
  | .tsx => 0xBA
  | .sec => 0x38
  | .clc => 0x18
  | .sei => 0x78
  | .cli => 0x58
  | .sed => 0xF8
  | .cld => 0xD8
  | .clv => 0xB8
  | .nop => 0xEA
  | .stop => cfg.stopOpcode

/-- The bytes after the opcode (R122, R123). BRK's pad byte is any byte; the encoder writes 0x00 (log
entry 5). -/
def Arg.bytes : Arg → List Byte
  | .imp | .acc | .stop => []
  | .brk => [0x00]
  | .imm b | .zp b | .zpx b | .zpy b | .indx b | .indy b | .rel b => [b]
  | .abs w | .absx w | .absy w | .ind w => [lo w, hi w]

/-- The encoding of an instruction: the opcode byte and its operand bytes (R120). -/
def encode (cfg : Config) (i : Instr) : List Byte := i.opcode cfg :: i.arg.bytes

/-- The length of an instruction in bytes, by its mode (R122, R154). -/
def Arg.length : Arg → Nat
  | .imp | .acc | .stop => 1
  | .imm _ | .zp _ | .zpx _ | .zpy _ | .indx _ | .indy _ | .rel _ | .brk => 2
  | .abs _ | .absx _ | .absy _ | .ind _ => 3

/-- The mode tag of an operand (R122). -/
def Arg.mode : Arg → Mode
  | .imp => .imp
  | .acc => .acc
  | .imm _ => .imm
  | .zp _ => .zp
  | .zpx _ => .zpx
  | .zpy _ => .zpy
  | .abs _ => .abs
  | .absx _ => .absx
  | .absy _ => .absy
  | .ind _ => .ind
  | .indx _ => .indx
  | .indy _ => .indy
  | .rel _ => .rel
  | .brk => .brk
  | .stop => .stop

/-- The three bytes of a table word: bit 0 is the least significant bit of the first byte, bits from
`nbits` up are 0. -/
def tableBytes (nbits w : Nat) : List Byte :=
  let v := w % 2 ^ nbits
  [BitVec.ofNat 8 v, BitVec.ofNat 8 (v / 256), BitVec.ofNat 8 (v / 65536)]

/-- The instruction the decoder reads from a table word, with the default parameters. -/
def decodeTableWord (nbits w : Nat) : Option Instr :=
  match decode Config.default (tableBytes nbits w) with
  | .ok i _ => some i
  | .reject _ => none

end Sys2Proof
end

