-- ==== Sys2Proof/Machine/Flags.lean ====
section
/-! DEFINITION. The flag_update_engine and the alu_logic: packing and unpacking the status byte (10_state.md
R47 to R50), add and subtract (41_arithmetic.md R220, R221), compare and bit test (45_compare_bit.md
R300, R304), shifts and rotates (43_shift_rotate.md R261 to R264). All are total functions of bytes
and flags. -/

namespace Sys2Proof

/-- `pack()`: bit 7 to bit 0 are N, V, 1, 1, D, I, Z, C (R47, R48). -/
def Flags.pack (f : Flags) : Byte :=
  BitVec.ofNat 8 (f.n.toNat * 128 + f.v.toNat * 64 + 32 + 16 + f.d.toNat * 8 + f.i.toNat * 4 +
    f.z.toNat * 2 + f.c.toNat)

/-- `unpack(b)`: all six flags from bits 0, 1, 2, 3, 6, 7; bits 5 and 4 are discarded (R49, C1). -/
def Flags.unpack (b : Byte) : Flags where
  c := b.getLsbD 0
  z := b.getLsbD 1
  i := b.getLsbD 2
  d := b.getLsbD 3
  v := b.getLsbD 6
  n := b.getLsbD 7

/-- `setZN(v)`: Z from v = 0, N from bit 7, nothing else (R50). -/
def Flags.withZN (f : Flags) (v : Byte) : Flags :=
  { f with z := v == 0, n := v.getLsbD 7 }

/-- A sum with its carry and overflow. -/
structure Sum where
  value : Byte
  carry : Bool
  overflow : Bool
  deriving DecidableEq, Repr

/-- `adc8(a, m, c)` (R220). -/
def adc8 (a m : Byte) (c : Bool) : Sum :=
  let sum := a.toNat + m.toNat + c.toNat
  let value := BitVec.ofNat 8 sum
  { value
    carry := decide (255 < sum)
    overflow := (~~~(a ^^^ m) &&& (a ^^^ value) &&& 0x80) != 0 }

/-- `sbc8(a, m, c)`: the addition of the operand's complement, with its own overflow test (R221). -/
def sbc8 (a m : Byte) (c : Bool) : Sum :=
  let r := adc8 a (~~~m) c
  { value := r.value
    carry := r.carry
    overflow := ((a ^^^ r.value) &&& (a ^^^ m) &&& 0x80) != 0 }

/-- The flags after an addition or subtraction: C, V, then Z and N of the result (R223, R224). -/
def Flags.withSum (f : Flags) (r : Sum) : Flags :=
  Flags.withZN { f with c := r.carry, v := r.overflow } r.value

/-- `compare(r, m)`: C is unsigned r >= m, Z is r = m, N is bit 7 of the wrapped difference; V is not
written (R300). -/
def Flags.compare (f : Flags) (r m : Byte) : Flags :=
  { f with c := decide (m.toNat ≤ r.toNat), z := r == m, n := (r - m).getLsbD 7 }

/-- BIT's flags: Z from A AND m, N and V from bits 7 and 6 of m (R304). -/
def Flags.bitTest (f : Flags) (a m : Byte) : Flags :=
  { f with z := (a &&& m) == 0, n := m.getLsbD 7, v := m.getLsbD 6 }

/-- A shifted byte with the bit shifted off. -/
structure Shifted where
  value : Byte
  carry : Bool
  deriving DecidableEq, Repr

/-- ASL: bit 0 becomes 0, C is old bit 7; the previous carry is not read (R261). -/
def shiftLeft (v : Byte) (_c : Bool) : Shifted :=
  { value := v <<< 1, carry := v.getLsbD 7 }

/-- LSR: bit 7 becomes 0, C is old bit 0; the previous carry is not read (R262). -/
def shiftRight (v : Byte) (_c : Bool) : Shifted :=
  { value := v >>> 1, carry := v.getLsbD 0 }

/-- ROL: the previous carry goes into bit 0, C is old bit 7 (R263). -/
def rotateLeft (v : Byte) (c : Bool) : Shifted :=
  { value := (v <<< 1) ||| BitVec.ofNat 8 c.toNat, carry := v.getLsbD 7 }

/-- ROR: the previous carry goes into bit 7, C is old bit 0 (R264). -/
def rotateRight (v : Byte) (c : Bool) : Shifted :=
  { value := (v >>> 1) ||| (BitVec.ofNat 8 c.toNat <<< 7), carry := v.getLsbD 0 }

/-- The flags after a shift or rotate: C, then Z and N of the result (R261 to R264). -/
def Flags.withShift (f : Flags) (r : Shifted) : Flags :=
  Flags.withZN { f with c := r.carry } r.value

end Sys2Proof
end

