-- ==== Sys2Proof/Machine/State.lean ====
section
/-! DEFINITION. The state of the core and its attached memory (10_state.md R57), the reasons a run can stop,
and the state after reset (70_reset_and_hazards.md R458). -/

namespace Sys2Proof.Machine

/-- A memory as a sparse list of (index, byte), indexes strictly rising, no entry equal to 0x00, which is what
an unlisted index reads as (log entry 3). -/
abbrev Memory := List Host.Cell

/-- A record of the `trace` stream (60_exceptions.md R430): the opcode's address and byte, and the visible
state before the instruction. -/
structure TraceRecord where
  pc0 : Word
  op : Byte
  a : Byte
  x : Byte
  y : Byte
  sp : Byte
  p : Byte
  cycles : Nat
  deriving DecidableEq, Repr

/-- A report (60_exceptions.md R400, R401). -/
inductive Report where
  /-- A read of 0x2000 to 0x7FFF: the read address (R402). -/
  | unmappedAccess (addr : Word)
  /-- An unknown opcode: the byte and its address (R404). -/
  | unknownOpcode (op : Byte) (pc0 : Word)
  /-- A reset with an image that is too short: the image's length (R406). -/
  | imageSizeError (length : Nat)
  deriving DecidableEq, Repr

/-- An output of the core: a record of the `trace` stream (R430) or of the `report` stream (R401). -/
inductive Event where
  | trace (r : TraceRecord)
  | report (r : Report)
  deriving DecidableEq, Repr

/-- The complete state (R57): the register file (R40), the six flags (R46), `halted` (R54), `cycles` (R55), the
work RAM (R81), the program ROM (R82), the image header (R83) and the outputs of both streams. -/
structure State where
  a : Byte
  x : Byte
  y : Byte
  sp : Byte
  pc : Word
  flags : Flags
  halted : Bool
  cycles : Nat
  /-- Indexed 0 to 2047 (R81). -/
  ram : Memory
  /-- Indexed 0 to 32767, address less 0x8000 (R82, R84). -/
  rom : Memory
  /-- The 16 header bytes (R83). -/
  header : List Byte
  /-- What the `trace` and `report` streams emitted, oldest first, in the one order of R411; `State.trace` and
  `State.report` are its two parts. -/
  events : List Event
  deriving DecidableEq, Repr

/-- Why the machine stops with no state. No step raises one: every condition of a step has its effect on
the state (R402, R404). -/
inductive Fault where
  /-- ImageSizeError: raised by `Machine.reset` when the image is shorter than 32784 bytes; the state is
  unspecified and no step is admitted (R406, D30). Safe: no claim about a run after it can be proved. -/
  | imageSizeError (length : Nat)
  deriving DecidableEq, Repr

/-- Why there is no meaning. -/
inductive Refusal where
  /-- Raised by an arm of `exec` whose instruction has no meaning yet; safe. No arm raises it. -/
  | notModelled (mnemonic : String)
  /-- Raised by `stepWith` and `Machine.reset` when STOP_OPCODE is a documented opcode: such a configuration has
  no model (R151, D31); safe. `step` never raises it. -/
  | invalidConfig
  deriving DecidableEq, Repr

/-- The state after a reset with the default parameters and an image of zeros (R458; log entries 1 to 3):
PC is the word at the reset vector, which that image gives as 0x0000. -/
def State.reset : State where
  a := 0x00
  x := 0x00
  y := 0x00
  sp := 0xFD
  pc := 0x0000
  flags := { c := false, z := false, i := true, d := false, v := false, n := false }
  halted := false
  cycles := 0
  ram := []
  rom := []
  header := List.replicate 16 0x00
  events := []

end Sys2Proof.Machine
end

