-- ==== Sys2Proof/Machine/Ops.lean ====
section
/-! DEFINITION. The named operations over memory, registers, streams and the stack, and the break trap:
20_memory.md R84 to R92, 47_stack.md R340 and R341, 48_control.md R364 and R365, 60_exceptions.md
R404, R420 and R430. Every read and write of the state goes through these. -/

namespace Sys2Proof.Machine

/-! Memories: sparse lists in canonical form. -/

/-- The byte at an index; 0x00 where nothing is listed. -/
def Memory.read : Memory → Nat → Byte
  | [], _ => 0x00
  | (j, b) :: m, k => if j = k then b else Memory.read m k

/-- Writes one byte and keeps the canonical form: writing 0x00 removes the entry. -/
def Memory.write : Memory → Nat → Byte → Memory
  | [], k, v => if v = 0x00 then [] else [(k, v)]
  | (j, b) :: m, k, v =>
    if k < j then (if v = 0x00 then (j, b) :: m else (k, v) :: (j, b) :: m)
    else if k = j then (if v = 0x00 then m else (k, v) :: m)
    else (j, b) :: Memory.write m k v

/-- Canonical from an index on, below a bound: indexes strictly rising, no entry 0x00. -/
def Memory.wfFrom (bound : Nat) : Nat → Memory → Bool
  | _, [] => true
  | low, (j, b) :: m =>
    decide (low ≤ j) && decide (j < bound) && (b != 0x00) && Memory.wfFrom bound (j + 1) m

/-- The canonical form of a memory of `size` cells. -/
def Memory.wf (size : Nat) (m : Memory) : Bool := Memory.wfFrom size 0 m

/-- The canonical memory that holds a byte string from index `k` on. -/
def Memory.ofBytes (k : Nat) : List Byte → Memory
  | [] => []
  | b :: bs => if b = 0x00 then Memory.ofBytes (k + 1) bs else (k, b) :: Memory.ofBytes (k + 1) bs

/-! The fixed address map (00_scope.md R18, 20_memory.md R88). -/

/-- RAM_SIZE (R18). -/
def ramSize : Nat := 2048

/-- ROM_SIZE (R18). -/
def romSize : Nat := 32768

/-- RAM_MIRROR_END: reads below it go to RAM (R18). -/
def ramMirrorEnd : Nat := 0x2000

/-- ROM_BASE: reads from it on go to ROM (R18). -/
def romBase : Nat := 0x8000

/-- RESET_VECTOR (R89, C6). -/
def resetVector : Word := 0xFFFC

/-- BRK_VECTOR (R89, R364). -/
def brkVector : Word := 0xFFFE

/-- The RAM cell that an address names: `a mod 2048` (R84, R86). -/
def ramIndex (a : Word) : Nat := a.toNat % ramSize

/-- The stack-page address of an 8-bit pointer, `STACK_BASE + SP` with STACK_BASE = 0x0100 (R90, R340). -/
def stackAddr (sp : Byte) : Word := word 0x01 sp

/-- A read of this address is an UnmappedAccess: 0x2000 to 0x7FFF (R85). -/
def unmapped (a : Word) : Bool := decide (ramMirrorEnd ≤ a.toNat) && decide (a.toNat < romBase)

/-! Writers of one piece of state each. -/

def State.setA (s : State) (v : Byte) : State := { s with a := v }

def State.setX (s : State) (v : Byte) : State := { s with x := v }

def State.setY (s : State) (v : Byte) : State := { s with y := v }

def State.setSp (s : State) (v : Byte) : State := { s with sp := v }

def State.setPc (s : State) (w : Word) : State := { s with pc := w }

def State.setFlags (s : State) (f : Flags) : State := { s with flags := f }

/-- `setZN(v)` on the state (R50). -/
def State.setZN (s : State) (v : Byte) : State := { s with flags := s.flags.withZN v }

def State.setHalted (s : State) : State := { s with halted := true }

/-- Adds an instruction's cost to `cycles` (R470). -/
def State.addCycles (s : State) (n : Nat) : State := { s with cycles := s.cycles + n }

/-- Appends to the outputs. -/
def State.emit (s : State) (e : Event) : State := { s with events := s.events ++ [e] }

/-- Appends to the `report` stream (R401). -/
def State.emitReport (s : State) (r : Report) : State := s.emit (.report r)

/-- Appends to the `trace` stream the record of a fetch: the state is the one before the instruction, but for
PC (R60, R430). -/
def State.emitTrace (s : State) (pc0 : Word) (op : Byte) : State :=
  s.emit (.trace
    { pc0, op, a := s.a, x := s.x, y := s.y, sp := s.sp, p := s.flags.pack, cycles := s.cycles })

/-! The two output streams (R57, R401, R430): the parts of the outputs. -/

/-- The trace record of an output. -/
def Event.traceRecord? : Event → Option TraceRecord
  | .trace r => some r
  | .report _ => none

/-- The report of an output. -/
def Event.report? : Event → Option Report
  | .trace _ => none
  | .report r => some r

/-- The `trace` stream (R430), oldest record first. -/
def State.trace (s : State) : List TraceRecord := s.events.filterMap Event.traceRecord?

/-- The `report` stream (R401), oldest report first. -/
def State.report (s : State) : List Report := s.events.filterMap Event.report?

/-! Memory accesses: one byte each (R92). -/

/-- The byte a read of an address returns (R84): RAM and its mirrors, 0x00 in the unmapped region, ROM. -/
def State.peek (s : State) (a : Word) : Byte :=
  if a.toNat < ramMirrorEnd then s.ram.read (ramIndex a)
  else if romBase ≤ a.toNat then s.rom.read (a.toNat - romBase)
  else 0x00

/-- A byte read and the state after the read. -/
structure ByteRead where
  value : Byte
  state : State

/-- `MemRead(a)` (R84, R85): the byte, and an UnmappedAccess report for an unmapped address. -/
def State.memRead (s : State) (a : Word) : ByteRead :=
  { value := s.peek a
    state := if unmapped a then s.emitReport (.unmappedAccess a) else s }

/-- `MemWrite(a, v)` (R86): writes `ram[a mod 2048]` for every address, and nothing else. -/
def State.memWrite (s : State) (a : Word) (v : Byte) : State :=
  { s with ram := s.ram.write (ramIndex a) v }

/-- `fetch8()` (R124): the byte at PC, PC past it; PC wraps (R44). -/
def State.fetch8 (s : State) : ByteRead :=
  let r := s.memRead s.pc
  { value := r.value, state := r.state.setPc (s.pc + 1) }

/-! The stack_unit. -/

/-- `push(v)` (R340). -/
def State.push (s : State) (v : Byte) : State :=
  (s.memWrite (stackAddr s.sp) v).setSp (s.sp - 1)

/-- `pull()` (R341). -/
def State.pull (s : State) : ByteRead :=
  (s.setSp (s.sp + 1)).memRead (stackAddr (s.sp + 1))

/-- Pushes a word, high byte first, so that the low byte lies lower (R91, R360, R364). -/
def State.pushWord (s : State) (w : Word) : State :=
  (s.push (hi w)).push (lo w)

/-- A word read and the state after the reads. -/
structure WordRead where
  value : Word
  state : State

/-- Pulls a word, low byte first (R361, R365). -/
def State.pullWord (s : State) : WordRead :=
  let l := s.pull
  let h := l.state.pull
  { value := word h.value l.value, state := h.state }

/-- Reads a little-endian word from two addresses, low byte first (R91, R135 to R137, R364). -/
def State.readWord (s : State) (al ah : Word) : WordRead :=
  let l := s.memRead al
  let h := l.state.memRead ah
  { value := word h.value l.value, state := h.state }

/-! The break trap and the halting condition. -/

/-- Trap entry (R364, R420): pushes PC (which is past the pad byte) and the packed status, sets I and loads PC
from the BRK vector. -/
def State.takeBreak (s : State) : State :=
  let t := (s.pushWord s.pc).push s.flags.pack
  let t := t.setFlags { t.flags with i := true }
  let v := t.readWord brkVector (brkVector + 1)
  v.state.setPc v.value

/-- Trap return (R365, R422): status first, then PC, which is not incremented. -/
def State.returnFromBreak (s : State) : State :=
  let p := s.pull
  let r := (p.state.setFlags (Flags.unpack p.value)).pullWord
  r.state.setPc r.value

/-- `raise UnknownOpcode(op, pc0)` (R395, R404): halts and reports, nothing else. -/
def State.raiseUnknownOpcode (s : State) (op : Byte) (pc0 : Word) : State :=
  s.setHalted.emitReport (.unknownOpcode op pc0)

/-- The outcome of a step or of a meaning. -/
abbrev Result := Host.Outcome State Fault Refusal

end Sys2Proof.Machine
end

