-- ==== Sys2Proof/Machine/Operands.lean ====
section
/-! DEFINITION. The addressing_mode_resolver (30_encoding.md R125 to R138) and the three shapes of operand
use: a read, a write, a read-modify-write, each with its cost (70_reset_and_hazards.md R470). The
operand bytes have been fetched already (Machine/Fetch.lean), so PC is past them (R124). -/

namespace Sys2Proof.Machine

/-- The memory forms of an operand (R129 to R134, R136, R137). -/
inductive AddrForm where
  | zp (z : Byte)
  | zpx (z : Byte)
  | zpy (z : Byte)
  | abs (w : Word)
  | absx (w : Word)
  | absy (w : Word)
  | indx (z : Byte)
  | indy (z : Byte)
  deriving DecidableEq, Repr

/-- What an instruction that only reads takes its byte from: the immediate byte (R128) or memory. -/
inductive Source where
  | imm (b : Byte)
  | mem (f : AddrForm)
  deriving DecidableEq, Repr

/-- The resolver's answer (R125): effective address, page-crossing bit, and the state after the pointer
reads. -/
structure Resolved where
  ea : Word
  crossed : Bool
  state : State

/-- The indexed address of a base: the sum wraps at 16 bits; crossed when the pages differ (R133, R134, R137). -/
def indexed (base : Word) (index : Byte) (s : State) : Resolved :=
  let ea := base + index.setWidth 16
  { ea, crossed := pageDiffers base ea, state := s }

/-- The word at a zero-page pointer; its second byte is at z + 1 wrapped in the zero page (R136, R137). -/
def State.readPointer (s : State) (z : Byte) : WordRead :=
  s.readWord (zeroPage z) (zeroPage (z + 1))

/-- `resolve(mode)` (R125, R129 to R134, R136, R137). -/
def AddrForm.resolve : AddrForm → State → Resolved
  | .zp z, s => { ea := zeroPage z, crossed := false, state := s }
  | .zpx z, s => { ea := zeroPage (z + s.x), crossed := false, state := s }
  | .zpy z, s => { ea := zeroPage (z + s.y), crossed := false, state := s }
  | .abs w, s => { ea := w, crossed := false, state := s }
  | .absx w, s => indexed w s.x s
  | .absy w, s => indexed w s.y s
  | .indx z, s =>
    let p := s.readPointer (z + s.x)
    { ea := p.value, crossed := false, state := p.state }
  | .indy z, s =>
    let p := s.readPointer z
    indexed p.value s.y p.state

/-- An operand byte, its page-crossing bit and the state after the reads. -/
structure OperandRead where
  value : Byte
  crossed : Bool
  state : State

/-- The operand of a reading instruction: the immediate byte, or one read of the effective address. -/
def Source.read : Source → State → OperandRead
  | .imm b, s => { value := b, crossed := false, state := s }
  | .mem f, s =>
    let r := f.resolve s
    let m := r.state.memRead r.ea
    { value := m.value, crossed := r.crossed, state := m.state }

/-- The word at an indirect-jump pointer: the second byte is taken from the same page (R135, R367). -/
def State.readJumpPointer (s : State) (p : Word) : WordRead :=
  s.readWord p (word (hi p) (lo p + 1))

/-- A reading instruction: reads its operand once, applies its effect, and adds its base cost, one more when
the indexed address crosses a page (R139, R470, R472). -/
def readThen (src : Source) (cost : Nat) (effect : State → Byte → State) (s : State) : Result :=
  let r := src.read s
  .next ((effect r.state r.value).addCycles (cost + r.crossed.toNat))

/-- A storing instruction: writes one byte at the effective address; a fixed cost (R139, R204 to R206). -/
def storeTo (f : AddrForm) (cost : Nat) (v : Byte) (s : State) : Result :=
  let r := f.resolve s
  .next ((r.state.memWrite r.ea v).addCycles cost)

/-- A read-modify-write instruction: one read, one write of the result to the same address, the flags; a fixed
cost (R260). `effect` gives the result and the new flags from the byte and the old flags. -/
def modifyAt (f : AddrForm) (cost : Nat) (effect : Byte → Flags → Byte × Flags) (s : State) : Result :=
  let r := f.resolve s
  let m := r.state.memRead r.ea
  let e := effect m.value m.state.flags
  .next (((m.state.memWrite r.ea e.1).setFlags e.2).addCycles cost)

/-- The branch target: PC (past the offset byte) plus the signed offset, wrapped (R138, R320). -/
def branchTarget (pc : Word) (off : Byte) : Word := pc + sext16 off

/-- `Bxx` (R320): cost 2, one more when taken, one more when taken to another page than that of the next
instruction. -/
def branchIf (cond : Bool) (off : Byte) (s : State) : Result :=
  let target := branchTarget s.pc off
  .next <|
    if cond then (s.setPc target).addCycles (3 + (pageDiffers s.pc target).toNat)
    else s.addCycles 2

end Sys2Proof.Machine
end

