-- ==== Sys2Proof/Machine/Arithmetic.lean ====
section
/-! DEFINITION. ADC and SBC (41_arithmetic.md R220 to R226). -/

namespace Sys2Proof.Machine

/-- A sum goes to A; C, V, Z and N from it; I and D are neither read nor written (R222 to R224). -/
def State.takeSum (s : State) (r : Sum) : State :=
  (s.setA r.value).setFlags (s.flags.withSum r)

/-- ADC: A + operand + C, binary whatever D is (R223). -/
def addToA (src : Source) (cost : Nat) (s : State) : Result :=
  readThen src cost (fun t m => t.takeSum (adc8 t.a m t.flags.c)) s

/-- 0x61: ADC (zero page,X) (R223). -/
def execAdcIndX (zp : Byte) (s : State) : Result :=
  addToA (.mem (.indx zp)) 6 s

/-- 0x65: ADC zero page (R223). -/
def execAdcZp (zp : Byte) (s : State) : Result :=
  addToA (.mem (.zp zp)) 3 s

/-- 0x69: ADC immediate (R223). -/
def execAdcImm (imm : Byte) (s : State) : Result :=
  addToA (.imm imm) 2 s

/-- 0x6D: ADC absolute (R223). -/
def execAdcAbs (addr : Word) (s : State) : Result :=
  addToA (.mem (.abs addr)) 4 s

/-- 0x71: ADC (zero page),Y (R223). -/
def execAdcIndY (zp : Byte) (s : State) : Result :=
  addToA (.mem (.indy zp)) 5 s

/-- 0x75: ADC zero page,X (R223). -/
def execAdcZpX (zp : Byte) (s : State) : Result :=
  addToA (.mem (.zpx zp)) 4 s

/-- 0x79: ADC absolute,Y (R223). -/
def execAdcAbsY (base : Word) (s : State) : Result :=
  addToA (.mem (.absy base)) 4 s

/-- 0x7D: ADC absolute,X (R223). -/
def execAdcAbsX (base : Word) (s : State) : Result :=
  addToA (.mem (.absx base)) 4 s

/-- SBC: A - operand - (1 - C), binary whatever D is (R224). -/
def subFromA (src : Source) (cost : Nat) (s : State) : Result :=
  readThen src cost (fun t m => t.takeSum (sbc8 t.a m t.flags.c)) s

/-- 0xE1: SBC (zero page,X) (R224). -/
def execSbcIndX (zp : Byte) (s : State) : Result :=
  subFromA (.mem (.indx zp)) 6 s

/-- 0xE5: SBC zero page (R224). -/
def execSbcZp (zp : Byte) (s : State) : Result :=
  subFromA (.mem (.zp zp)) 3 s

/-- 0xE9: SBC immediate (R224). -/
def execSbcImm (imm : Byte) (s : State) : Result :=
  subFromA (.imm imm) 2 s

/-- 0xED: SBC absolute (R224). -/
def execSbcAbs (addr : Word) (s : State) : Result :=
  subFromA (.mem (.abs addr)) 4 s

/-- 0xF1: SBC (zero page),Y (R224). -/
def execSbcIndY (zp : Byte) (s : State) : Result :=
  subFromA (.mem (.indy zp)) 5 s

/-- 0xF5: SBC zero page,X (R224). -/
def execSbcZpX (zp : Byte) (s : State) : Result :=
  subFromA (.mem (.zpx zp)) 4 s

/-- 0xF9: SBC absolute,Y (R224). -/
def execSbcAbsY (base : Word) (s : State) : Result :=
  subFromA (.mem (.absy base)) 4 s

/-- 0xFD: SBC absolute,X (R224). -/
def execSbcAbsX (base : Word) (s : State) : Result :=
  subFromA (.mem (.absx base)) 4 s

end Sys2Proof.Machine
end

