-- ==== Sys2Proof/Machine/Branch.lean ====
section
/-! DEFINITION. The conditional branches (46_branch.md R320 to R328). -/

namespace Sys2Proof.Machine

/-- 0x10: BPL relative (R321). -/
def execBpl (off : Byte) (s : State) : Result :=
  branchIf (!s.flags.n) off s

/-- 0x30: BMI relative (R322). -/
def execBmi (off : Byte) (s : State) : Result :=
  branchIf s.flags.n off s

/-- 0x50: BVC relative (R323). -/
def execBvc (off : Byte) (s : State) : Result :=
  branchIf (!s.flags.v) off s

/-- 0x70: BVS relative (R324). -/
def execBvs (off : Byte) (s : State) : Result :=
  branchIf s.flags.v off s

/-- 0x90: BCC relative (R325). -/
def execBcc (off : Byte) (s : State) : Result :=
  branchIf (!s.flags.c) off s

/-- 0xB0: BCS relative (R326). -/
def execBcs (off : Byte) (s : State) : Result :=
  branchIf s.flags.c off s

/-- 0xD0: BNE relative (R327). -/
def execBne (off : Byte) (s : State) : Result :=
  branchIf (!s.flags.z) off s

/-- 0xF0: BEQ relative (R328). -/
def execBeq (off : Byte) (s : State) : Result :=
  branchIf s.flags.z off s

end Sys2Proof.Machine
end

