-- ==== Sys2Proof/Machine/CompareBit.lean ====
section
/-! DEFINITION. CMP, CPX, CPY and BIT (45_compare_bit.md R300 to R304). -/

namespace Sys2Proof.Machine

/-- CMP: C, Z and N from A and the operand; no register is written (R301). -/
def compareA (src : Source) (cost : Nat) (s : State) : Result :=
  readThen src cost (fun t m => t.setFlags (t.flags.compare t.a m)) s

/-- 0xC1: CMP (zero page,X) (R301). -/
def execCmpIndX (zp : Byte) (s : State) : Result :=
  compareA (.mem (.indx zp)) 6 s

/-- 0xC5: CMP zero page (R301). -/
def execCmpZp (zp : Byte) (s : State) : Result :=
  compareA (.mem (.zp zp)) 3 s

/-- 0xC9: CMP immediate (R301). -/
def execCmpImm (imm : Byte) (s : State) : Result :=
  compareA (.imm imm) 2 s

/-- 0xCD: CMP absolute (R301). -/
def execCmpAbs (addr : Word) (s : State) : Result :=
  compareA (.mem (.abs addr)) 4 s

/-- 0xD1: CMP (zero page),Y (R301). -/
def execCmpIndY (zp : Byte) (s : State) : Result :=
  compareA (.mem (.indy zp)) 5 s

/-- 0xD5: CMP zero page,X (R301). -/
def execCmpZpX (zp : Byte) (s : State) : Result :=
  compareA (.mem (.zpx zp)) 4 s

/-- 0xD9: CMP absolute,Y (R301). -/
def execCmpAbsY (base : Word) (s : State) : Result :=
  compareA (.mem (.absy base)) 4 s

/-- 0xDD: CMP absolute,X (R301). -/
def execCmpAbsX (base : Word) (s : State) : Result :=
  compareA (.mem (.absx base)) 4 s

/-- CPX: C, Z and N from X and the operand; no register is written (R302). -/
def compareX (src : Source) (cost : Nat) (s : State) : Result :=
  readThen src cost (fun t m => t.setFlags (t.flags.compare t.x m)) s

/-- 0xE0: CPX immediate (R302). -/
def execCpxImm (imm : Byte) (s : State) : Result :=
  compareX (.imm imm) 2 s

/-- 0xE4: CPX zero page (R302). -/
def execCpxZp (zp : Byte) (s : State) : Result :=
  compareX (.mem (.zp zp)) 3 s

/-- 0xEC: CPX absolute (R302). -/
def execCpxAbs (addr : Word) (s : State) : Result :=
  compareX (.mem (.abs addr)) 4 s

/-- CPY: C, Z and N from Y and the operand; no register is written (R303). -/
def compareY (src : Source) (cost : Nat) (s : State) : Result :=
  readThen src cost (fun t m => t.setFlags (t.flags.compare t.y m)) s

/-- 0xC0: CPY immediate (R303). -/
def execCpyImm (imm : Byte) (s : State) : Result :=
  compareY (.imm imm) 2 s

/-- 0xC4: CPY zero page (R303). -/
def execCpyZp (zp : Byte) (s : State) : Result :=
  compareY (.mem (.zp zp)) 3 s

/-- 0xCC: CPY absolute (R303). -/
def execCpyAbs (addr : Word) (s : State) : Result :=
  compareY (.mem (.abs addr)) 4 s

/-- BIT: Z from A AND operand, N and V from the operand (R304). -/
def bitTestA (src : Source) (cost : Nat) (s : State) : Result :=
  readThen src cost (fun t m => t.setFlags (t.flags.bitTest t.a m)) s

/-- 0x24: BIT zero page (R304). -/
def execBitZp (zp : Byte) (s : State) : Result :=
  bitTestA (.mem (.zp zp)) 3 s

/-- 0x2C: BIT absolute (R304). -/
def execBitAbs (addr : Word) (s : State) : Result :=
  bitTestA (.mem (.abs addr)) 4 s

end Sys2Proof.Machine
end

