-- ==== Sys2Proof/Machine/Control.lean ====
section
/-! DEFINITION. JSR, RTS, BRK, RTI and JMP (48_control.md R360 to R367). -/

namespace Sys2Proof.Machine

/-- 0x20: JSR absolute (R360). -/
def execJsrAbs (addr : Word) (s : State) : Result :=
  .next (((s.pushWord (s.pc - 1)).setPc addr).addCycles 6)

/-- 0x60: RTS implied (R361). -/
def execRts (s : State) : Result :=
  let r := s.pullWord
  .next ((r.state.setPc (r.value + 1)).addCycles 6)

/-- 0x00: BRK break (R364). -/
def execBrk (s : State) : Result :=
  .next ((s.setPc (s.pc + 1)).takeBreak.addCycles 7)

/-- 0x40: RTI implied (R365). -/
def execRti (s : State) : Result :=
  .next (s.returnFromBreak.addCycles 6)

/-- 0x4C: JMP absolute (R366). -/
def execJmpAbs (addr : Word) (s : State) : Result :=
  .next ((s.setPc addr).addCycles 3)

/-- 0x6C: JMP indirect (R367). -/
def execJmpInd (ptr : Word) (s : State) : Result :=
  let p := s.readJumpPointer ptr
  .next ((p.state.setPc p.value).addCycles 5)

end Sys2Proof.Machine
end

