-- ==== Sys2Proof/Machine/IncDec.lean ====
section
/-! DEFINITION. INC, DEC, INX, INY, DEX and DEY (44_inc_dec.md R280 to R285). -/

namespace Sys2Proof.Machine

/-- INC and DEC on memory: adds `d` to the byte, wrapping; Z and N from the result; C and V untouched
(R280, R281). -/
def stepMem (d : Byte) (f : AddrForm) (cost : Nat) (s : State) : Result :=
  modifyAt f cost (fun m p => (m + d, p.withZN (m + d))) s

/-- 0xE6: INC zero page (R280). -/
def execIncZp (zp : Byte) (s : State) : Result :=
  stepMem 1 (.zp zp) 5 s

/-- 0xEE: INC absolute (R280). -/
def execIncAbs (addr : Word) (s : State) : Result :=
  stepMem 1 (.abs addr) 6 s

/-- 0xF6: INC zero page,X (R280). -/
def execIncZpX (zp : Byte) (s : State) : Result :=
  stepMem 1 (.zpx zp) 6 s

/-- 0xFE: INC absolute,X (R280). -/
def execIncAbsX (base : Word) (s : State) : Result :=
  stepMem 1 (.absx base) 7 s

/-- 0xC6: DEC zero page (R281). -/
def execDecZp (zp : Byte) (s : State) : Result :=
  stepMem (-1) (.zp zp) 5 s

/-- 0xCE: DEC absolute (R281). -/
def execDecAbs (addr : Word) (s : State) : Result :=
  stepMem (-1) (.abs addr) 6 s

/-- 0xD6: DEC zero page,X (R281). -/
def execDecZpX (zp : Byte) (s : State) : Result :=
  stepMem (-1) (.zpx zp) 6 s

/-- 0xDE: DEC absolute,X (R281). -/
def execDecAbsX (base : Word) (s : State) : Result :=
  stepMem (-1) (.absx base) 7 s

/-- 0xE8: INX implied (R282). -/
def execInx (s : State) : Result :=
  .next (((s.setX (s.x + 1)).setZN (s.x + 1)).addCycles 2)

/-- 0xC8: INY implied (R283). -/
def execIny (s : State) : Result :=
  .next (((s.setY (s.y + 1)).setZN (s.y + 1)).addCycles 2)

/-- 0xCA: DEX implied (R284). -/
def execDex (s : State) : Result :=
  .next (((s.setX (s.x - 1)).setZN (s.x - 1)).addCycles 2)

/-- 0x88: DEY implied (R285). -/
def execDey (s : State) : Result :=
  .next (((s.setY (s.y - 1)).setZN (s.y - 1)).addCycles 2)

end Sys2Proof.Machine
end

