-- ==== Sys2Proof/Machine/LoadStore.lean ====
section
/-! DEFINITION. Loads and stores: LDA LDX LDY STA STX STY (40_load_store.md R200 to R206). -/

namespace Sys2Proof.Machine

/-- LDA: A takes the operand byte; Z and N from it (R201). -/
def loadA (src : Source) (cost : Nat) (s : State) : Result :=
  readThen src cost (fun t m => (t.setA m).setZN m) s

/-- 0xA1: LDA (zero page,X) (R201). -/
def execLdaIndX (zp : Byte) (s : State) : Result :=
  loadA (.mem (.indx zp)) 6 s

/-- 0xA5: LDA zero page (R201). -/
def execLdaZp (zp : Byte) (s : State) : Result :=
  loadA (.mem (.zp zp)) 3 s

/-- 0xA9: LDA immediate (R201). -/
def execLdaImm (imm : Byte) (s : State) : Result :=
  loadA (.imm imm) 2 s

/-- 0xAD: LDA absolute (R201). -/
def execLdaAbs (addr : Word) (s : State) : Result :=
  loadA (.mem (.abs addr)) 4 s

/-- 0xB1: LDA (zero page),Y (R201). -/
def execLdaIndY (zp : Byte) (s : State) : Result :=
  loadA (.mem (.indy zp)) 5 s

/-- 0xB5: LDA zero page,X (R201). -/
def execLdaZpX (zp : Byte) (s : State) : Result :=
  loadA (.mem (.zpx zp)) 4 s

/-- 0xB9: LDA absolute,Y (R201). -/
def execLdaAbsY (base : Word) (s : State) : Result :=
  loadA (.mem (.absy base)) 4 s

/-- 0xBD: LDA absolute,X (R201). -/
def execLdaAbsX (base : Word) (s : State) : Result :=
  loadA (.mem (.absx base)) 4 s

/-- LDX: X takes the operand byte; Z and N from it (R202). -/
def loadX (src : Source) (cost : Nat) (s : State) : Result :=
  readThen src cost (fun t m => (t.setX m).setZN m) s

/-- 0xA2: LDX immediate (R202). -/
def execLdxImm (imm : Byte) (s : State) : Result :=
  loadX (.imm imm) 2 s

/-- 0xA6: LDX zero page (R202). -/
def execLdxZp (zp : Byte) (s : State) : Result :=
  loadX (.mem (.zp zp)) 3 s

/-- 0xAE: LDX absolute (R202). -/
def execLdxAbs (addr : Word) (s : State) : Result :=
  loadX (.mem (.abs addr)) 4 s

/-- 0xB6: LDX zero page,Y (R202). -/
def execLdxZpY (zp : Byte) (s : State) : Result :=
  loadX (.mem (.zpy zp)) 4 s

/-- 0xBE: LDX absolute,Y (R202). -/
def execLdxAbsY (base : Word) (s : State) : Result :=
  loadX (.mem (.absy base)) 4 s

/-- LDY: Y takes the operand byte; Z and N from it (R203). -/
def loadY (src : Source) (cost : Nat) (s : State) : Result :=
  readThen src cost (fun t m => (t.setY m).setZN m) s

/-- 0xA0: LDY immediate (R203). -/
def execLdyImm (imm : Byte) (s : State) : Result :=
  loadY (.imm imm) 2 s

/-- 0xA4: LDY zero page (R203). -/
def execLdyZp (zp : Byte) (s : State) : Result :=
  loadY (.mem (.zp zp)) 3 s

/-- 0xAC: LDY absolute (R203). -/
def execLdyAbs (addr : Word) (s : State) : Result :=
  loadY (.mem (.abs addr)) 4 s

/-- 0xB4: LDY zero page,X (R203). -/
def execLdyZpX (zp : Byte) (s : State) : Result :=
  loadY (.mem (.zpx zp)) 4 s

/-- 0xBC: LDY absolute,X (R203). -/
def execLdyAbsX (base : Word) (s : State) : Result :=
  loadY (.mem (.absx base)) 4 s

/-- STA: writes A at the effective address; no flag, no page penalty (R204). -/
def storeA (f : AddrForm) (cost : Nat) (s : State) : Result :=
  storeTo f cost s.a s

/-- 0x81: STA (zero page,X) (R204). -/
def execStaIndX (zp : Byte) (s : State) : Result :=
  storeA (.indx zp) 6 s

/-- 0x85: STA zero page (R204). -/
def execStaZp (zp : Byte) (s : State) : Result :=
  storeA (.zp zp) 3 s

/-- 0x8D: STA absolute (R204). -/
def execStaAbs (addr : Word) (s : State) : Result :=
  storeA (.abs addr) 4 s

/-- 0x91: STA (zero page),Y (R204). -/
def execStaIndY (zp : Byte) (s : State) : Result :=
  storeA (.indy zp) 6 s

/-- 0x95: STA zero page,X (R204). -/
def execStaZpX (zp : Byte) (s : State) : Result :=
  storeA (.zpx zp) 4 s

/-- 0x99: STA absolute,Y (R204). -/
def execStaAbsY (base : Word) (s : State) : Result :=
  storeA (.absy base) 5 s

/-- 0x9D: STA absolute,X (R204). -/
def execStaAbsX (base : Word) (s : State) : Result :=
  storeA (.absx base) 5 s

/-- STX: writes X at the effective address; no flag, no page penalty (R205). -/
def storeX (f : AddrForm) (cost : Nat) (s : State) : Result :=
  storeTo f cost s.x s

/-- 0x86: STX zero page (R205). -/
def execStxZp (zp : Byte) (s : State) : Result :=
  storeX (.zp zp) 3 s

/-- 0x8E: STX absolute (R205). -/
def execStxAbs (addr : Word) (s : State) : Result :=
  storeX (.abs addr) 4 s

/-- 0x96: STX zero page,Y (R205). -/
def execStxZpY (zp : Byte) (s : State) : Result :=
  storeX (.zpy zp) 4 s

/-- STY: writes Y at the effective address; no flag, no page penalty (R206). -/
def storeY (f : AddrForm) (cost : Nat) (s : State) : Result :=
  storeTo f cost s.y s

/-- 0x84: STY zero page (R206). -/
def execStyZp (zp : Byte) (s : State) : Result :=
  storeY (.zp zp) 3 s

/-- 0x8C: STY absolute (R206). -/
def execStyAbs (addr : Word) (s : State) : Result :=
  storeY (.abs addr) 4 s

/-- 0x94: STY zero page,X (R206). -/
def execStyZpX (zp : Byte) (s : State) : Result :=
  storeY (.zpx zp) 4 s

end Sys2Proof.Machine
end

