-- ==== Sys2Proof/Machine/Logical.lean ====
section
/-! DEFINITION. AND, ORA and EOR (42_logical.md R240 to R242). -/

namespace Sys2Proof.Machine

/-- AND into A; Z and N from the result (R240). -/
def andA (src : Source) (cost : Nat) (s : State) : Result :=
  readThen src cost (fun t m => (t.setA (t.a &&& m)).setZN (t.a &&& m)) s

/-- 0x21: AND (zero page,X) (R240). -/
def execAndIndX (zp : Byte) (s : State) : Result :=
  andA (.mem (.indx zp)) 6 s

/-- 0x25: AND zero page (R240). -/
def execAndZp (zp : Byte) (s : State) : Result :=
  andA (.mem (.zp zp)) 3 s

/-- 0x29: AND immediate (R240). -/
def execAndImm (imm : Byte) (s : State) : Result :=
  andA (.imm imm) 2 s

/-- 0x2D: AND absolute (R240). -/
def execAndAbs (addr : Word) (s : State) : Result :=
  andA (.mem (.abs addr)) 4 s

/-- 0x31: AND (zero page),Y (R240). -/
def execAndIndY (zp : Byte) (s : State) : Result :=
  andA (.mem (.indy zp)) 5 s

/-- 0x35: AND zero page,X (R240). -/
def execAndZpX (zp : Byte) (s : State) : Result :=
  andA (.mem (.zpx zp)) 4 s

/-- 0x39: AND absolute,Y (R240). -/
def execAndAbsY (base : Word) (s : State) : Result :=
  andA (.mem (.absy base)) 4 s

/-- 0x3D: AND absolute,X (R240). -/
def execAndAbsX (base : Word) (s : State) : Result :=
  andA (.mem (.absx base)) 4 s

/-- ORA into A; Z and N from the result (R241). -/
def orA (src : Source) (cost : Nat) (s : State) : Result :=
  readThen src cost (fun t m => (t.setA (t.a ||| m)).setZN (t.a ||| m)) s

/-- 0x01: ORA (zero page,X) (R241). -/
def execOraIndX (zp : Byte) (s : State) : Result :=
  orA (.mem (.indx zp)) 6 s

/-- 0x05: ORA zero page (R241). -/
def execOraZp (zp : Byte) (s : State) : Result :=
  orA (.mem (.zp zp)) 3 s

/-- 0x09: ORA immediate (R241). -/
def execOraImm (imm : Byte) (s : State) : Result :=
  orA (.imm imm) 2 s

/-- 0x0D: ORA absolute (R241). -/
def execOraAbs (addr : Word) (s : State) : Result :=
  orA (.mem (.abs addr)) 4 s

/-- 0x11: ORA (zero page),Y (R241). -/
def execOraIndY (zp : Byte) (s : State) : Result :=
  orA (.mem (.indy zp)) 5 s

/-- 0x15: ORA zero page,X (R241). -/
def execOraZpX (zp : Byte) (s : State) : Result :=
  orA (.mem (.zpx zp)) 4 s

/-- 0x19: ORA absolute,Y (R241). -/
def execOraAbsY (base : Word) (s : State) : Result :=
  orA (.mem (.absy base)) 4 s

/-- 0x1D: ORA absolute,X (R241). -/
def execOraAbsX (base : Word) (s : State) : Result :=
  orA (.mem (.absx base)) 4 s

/-- EOR into A; Z and N from the result (R242). -/
def eorA (src : Source) (cost : Nat) (s : State) : Result :=
  readThen src cost (fun t m => (t.setA (t.a ^^^ m)).setZN (t.a ^^^ m)) s

/-- 0x41: EOR (zero page,X) (R242). -/
def execEorIndX (zp : Byte) (s : State) : Result :=
  eorA (.mem (.indx zp)) 6 s

/-- 0x45: EOR zero page (R242). -/
def execEorZp (zp : Byte) (s : State) : Result :=
  eorA (.mem (.zp zp)) 3 s

/-- 0x49: EOR immediate (R242). -/
def execEorImm (imm : Byte) (s : State) : Result :=
  eorA (.imm imm) 2 s

/-- 0x4D: EOR absolute (R242). -/
def execEorAbs (addr : Word) (s : State) : Result :=
  eorA (.mem (.abs addr)) 4 s

/-- 0x51: EOR (zero page),Y (R242). -/
def execEorIndY (zp : Byte) (s : State) : Result :=
  eorA (.mem (.indy zp)) 5 s

/-- 0x55: EOR zero page,X (R242). -/
def execEorZpX (zp : Byte) (s : State) : Result :=
  eorA (.mem (.zpx zp)) 4 s

/-- 0x59: EOR absolute,Y (R242). -/
def execEorAbsY (base : Word) (s : State) : Result :=
  eorA (.mem (.absy base)) 4 s

/-- 0x5D: EOR absolute,X (R242). -/
def execEorAbsX (base : Word) (s : State) : Result :=
  eorA (.mem (.absx base)) 4 s

end Sys2Proof.Machine
end

