-- ==== Sys2Proof/Machine/ShiftRotate.lean ====
section
/-! DEFINITION. ASL, LSR, ROL and ROR (43_shift_rotate.md R260 to R264). -/

namespace Sys2Proof.Machine

/-- The accumulator form of a shift or rotate: reads and writes A (R260). -/
def shiftA (sh : Byte → Bool → Shifted) (cost : Nat) (s : State) : Result :=
  let r := sh s.a s.flags.c
  .next (((s.setA r.value).setFlags (s.flags.withShift r)).addCycles cost)

/-- The memory form of a shift or rotate: read-modify-write (R260). -/
def shiftMem (sh : Byte → Bool → Shifted) (f : AddrForm) (cost : Nat) (s : State) : Result :=
  modifyAt f cost (fun m p => ((sh m p.c).value, p.withShift (sh m p.c))) s

/-- 0x06: ASL zero page (R261). -/
def execAslZp (zp : Byte) (s : State) : Result :=
  shiftMem shiftLeft (.zp zp) 5 s

/-- 0x0A: ASL accumulator (R261). -/
def execAslAcc (s : State) : Result :=
  shiftA shiftLeft 2 s

/-- 0x0E: ASL absolute (R261). -/
def execAslAbs (addr : Word) (s : State) : Result :=
  shiftMem shiftLeft (.abs addr) 6 s

/-- 0x16: ASL zero page,X (R261). -/
def execAslZpX (zp : Byte) (s : State) : Result :=
  shiftMem shiftLeft (.zpx zp) 6 s

/-- 0x1E: ASL absolute,X (R261). -/
def execAslAbsX (base : Word) (s : State) : Result :=
  shiftMem shiftLeft (.absx base) 7 s

/-- 0x46: LSR zero page (R262). -/
def execLsrZp (zp : Byte) (s : State) : Result :=
  shiftMem shiftRight (.zp zp) 5 s

/-- 0x4A: LSR accumulator (R262). -/
def execLsrAcc (s : State) : Result :=
  shiftA shiftRight 2 s

/-- 0x4E: LSR absolute (R262). -/
def execLsrAbs (addr : Word) (s : State) : Result :=
  shiftMem shiftRight (.abs addr) 6 s

/-- 0x56: LSR zero page,X (R262). -/
def execLsrZpX (zp : Byte) (s : State) : Result :=
  shiftMem shiftRight (.zpx zp) 6 s

/-- 0x5E: LSR absolute,X (R262). -/
def execLsrAbsX (base : Word) (s : State) : Result :=
  shiftMem shiftRight (.absx base) 7 s

/-- 0x26: ROL zero page (R263). -/
def execRolZp (zp : Byte) (s : State) : Result :=
  shiftMem rotateLeft (.zp zp) 5 s

/-- 0x2A: ROL accumulator (R263). -/
def execRolAcc (s : State) : Result :=
  shiftA rotateLeft 2 s

/-- 0x2E: ROL absolute (R263). -/
def execRolAbs (addr : Word) (s : State) : Result :=
  shiftMem rotateLeft (.abs addr) 6 s

/-- 0x36: ROL zero page,X (R263). -/
def execRolZpX (zp : Byte) (s : State) : Result :=
  shiftMem rotateLeft (.zpx zp) 6 s

/-- 0x3E: ROL absolute,X (R263). -/
def execRolAbsX (base : Word) (s : State) : Result :=
  shiftMem rotateLeft (.absx base) 7 s

/-- 0x66: ROR zero page (R264). -/
def execRorZp (zp : Byte) (s : State) : Result :=
  shiftMem rotateRight (.zp zp) 5 s

/-- 0x6A: ROR accumulator (R264). -/
def execRorAcc (s : State) : Result :=
  shiftA rotateRight 2 s

/-- 0x6E: ROR absolute (R264). -/
def execRorAbs (addr : Word) (s : State) : Result :=
  shiftMem rotateRight (.abs addr) 6 s

/-- 0x76: ROR zero page,X (R264). -/
def execRorZpX (zp : Byte) (s : State) : Result :=
  shiftMem rotateRight (.zpx zp) 6 s

/-- 0x7E: ROR absolute,X (R264). -/
def execRorAbsX (base : Word) (s : State) : Result :=
  shiftMem rotateRight (.absx base) 7 s

end Sys2Proof.Machine
end

