-- ==== Sys2Proof/Machine/Stack.lean ====
section
/-! DEFINITION. PHA, PLA, PHP and PLP (47_stack.md R342 to R345). -/

namespace Sys2Proof.Machine

/-- 0x48: PHA implied (R342). -/
def execPha (s : State) : Result :=
  .next ((s.push s.a).addCycles 3)

/-- 0x68: PLA implied (R343). -/
def execPla (s : State) : Result :=
  let r := s.pull
  .next (((r.state.setA r.value).setZN r.value).addCycles 4)

/-- 0x08: PHP implied (R344). -/
def execPhp (s : State) : Result :=
  .next ((s.push s.flags.pack).addCycles 3)

/-- 0x28: PLP implied (R345). -/
def execPlp (s : State) : Result :=
  let r := s.pull
  .next ((r.state.setFlags (Flags.unpack r.value)).addCycles 4)

end Sys2Proof.Machine
end

