-- ==== Sys2Proof/Machine/TransferFlag.lean ====
section
/-! DEFINITION. Transfers, flag instructions, NOP and STOP (49_transfer_flag_misc.md R380 to R394). -/

namespace Sys2Proof.Machine

/-- 0xAA: TAX implied (R380). -/
def execTax (s : State) : Result :=
  .next (((s.setX s.a).setZN s.a).addCycles 2)

/-- 0x8A: TXA implied (R381). -/
def execTxa (s : State) : Result :=
  .next (((s.setA s.x).setZN s.x).addCycles 2)

/-- 0xA8: TAY implied (R382). -/
def execTay (s : State) : Result :=
  .next (((s.setY s.a).setZN s.a).addCycles 2)

/-- 0x98: TYA implied (R383). -/
def execTya (s : State) : Result :=
  .next (((s.setA s.y).setZN s.y).addCycles 2)

/-- 0xBA: TSX implied (R385). -/
def execTsx (s : State) : Result :=
  .next (((s.setX s.sp).setZN s.sp).addCycles 2)

/-- 0x9A: TXS implied (R384). -/
def execTxs (s : State) : Result :=
  .next ((s.setSp s.x).addCycles 2)

/-- 0x38: SEC implied (R386). -/
def execSec (s : State) : Result :=
  .next ((s.setFlags { s.flags with c := true }).addCycles 2)

/-- 0x18: CLC implied (R387). -/
def execClc (s : State) : Result :=
  .next ((s.setFlags { s.flags with c := false }).addCycles 2)

/-- 0x78: SEI implied (R388). -/
def execSei (s : State) : Result :=
  .next ((s.setFlags { s.flags with i := true }).addCycles 2)

/-- 0x58: CLI implied (R389). -/
def execCli (s : State) : Result :=
  .next ((s.setFlags { s.flags with i := false }).addCycles 2)

/-- 0xF8: SED implied (R390). -/
def execSed (s : State) : Result :=
  .next ((s.setFlags { s.flags with d := true }).addCycles 2)

/-- 0xD8: CLD implied (R391). -/
def execCld (s : State) : Result :=
  .next ((s.setFlags { s.flags with d := false }).addCycles 2)

/-- 0xB8: CLV implied (R392). -/
def execClv (s : State) : Result :=
  .next ((s.setFlags { s.flags with v := false }).addCycles 2)

/-- 0xEA: NOP implied (R393). -/
def execNop (s : State) : Result :=
  .next (s.addCycles 2)

/-- STOP_OPCODE: STOP stop (R394). -/
def execStop (s : State) : Result :=
  .next s.setHalted

end Sys2Proof.Machine
end

