-- ==== Sys2Proof/Machine/Dispatch.lean ====
section
/-! DEFINITION. One arm per instruction: the state is the one after its bytes have been fetched, PC past them
(30_encoding.md R124; 10_state.md R60), but for BRK's pad byte, which BRK itself skips (R364). -/

namespace Sys2Proof.Machine

def exec (i : Instr) (s : State) : Host.Outcome State Fault Refusal :=
  match i with
  | .ldaIndX zp => Sys2Proof.Machine.execLdaIndX zp s
  | .ldaZp zp => Sys2Proof.Machine.execLdaZp zp s
  | .ldaImm imm => Sys2Proof.Machine.execLdaImm imm s
  | .ldaAbs addr => Sys2Proof.Machine.execLdaAbs addr s
  | .ldaIndY zp => Sys2Proof.Machine.execLdaIndY zp s
  | .ldaZpX zp => Sys2Proof.Machine.execLdaZpX zp s
  | .ldaAbsY base => Sys2Proof.Machine.execLdaAbsY base s
  | .ldaAbsX base => Sys2Proof.Machine.execLdaAbsX base s
  | .ldxImm imm => Sys2Proof.Machine.execLdxImm imm s
  | .ldxZp zp => Sys2Proof.Machine.execLdxZp zp s
  | .ldxAbs addr => Sys2Proof.Machine.execLdxAbs addr s
  | .ldxZpY zp => Sys2Proof.Machine.execLdxZpY zp s
  | .ldxAbsY base => Sys2Proof.Machine.execLdxAbsY base s
  | .ldyImm imm => Sys2Proof.Machine.execLdyImm imm s
  | .ldyZp zp => Sys2Proof.Machine.execLdyZp zp s
  | .ldyAbs addr => Sys2Proof.Machine.execLdyAbs addr s
  | .ldyZpX zp => Sys2Proof.Machine.execLdyZpX zp s
  | .ldyAbsX base => Sys2Proof.Machine.execLdyAbsX base s
  | .staIndX zp => Sys2Proof.Machine.execStaIndX zp s
  | .staZp zp => Sys2Proof.Machine.execStaZp zp s
  | .staAbs addr => Sys2Proof.Machine.execStaAbs addr s
  | .staIndY zp => Sys2Proof.Machine.execStaIndY zp s
  | .staZpX zp => Sys2Proof.Machine.execStaZpX zp s
  | .staAbsY base => Sys2Proof.Machine.execStaAbsY base s
  | .staAbsX base => Sys2Proof.Machine.execStaAbsX base s
  | .stxZp zp => Sys2Proof.Machine.execStxZp zp s
  | .stxAbs addr => Sys2Proof.Machine.execStxAbs addr s
  | .stxZpY zp => Sys2Proof.Machine.execStxZpY zp s
  | .styZp zp => Sys2Proof.Machine.execStyZp zp s
  | .styAbs addr => Sys2Proof.Machine.execStyAbs addr s
  | .styZpX zp => Sys2Proof.Machine.execStyZpX zp s
  | .adcIndX zp => Sys2Proof.Machine.execAdcIndX zp s
  | .adcZp zp => Sys2Proof.Machine.execAdcZp zp s
  | .adcImm imm => Sys2Proof.Machine.execAdcImm imm s
  | .adcAbs addr => Sys2Proof.Machine.execAdcAbs addr s
  | .adcIndY zp => Sys2Proof.Machine.execAdcIndY zp s
  | .adcZpX zp => Sys2Proof.Machine.execAdcZpX zp s
  | .adcAbsY base => Sys2Proof.Machine.execAdcAbsY base s
  | .adcAbsX base => Sys2Proof.Machine.execAdcAbsX base s
  | .sbcIndX zp => Sys2Proof.Machine.execSbcIndX zp s
  | .sbcZp zp => Sys2Proof.Machine.execSbcZp zp s
  | .sbcImm imm => Sys2Proof.Machine.execSbcImm imm s
  | .sbcAbs addr => Sys2Proof.Machine.execSbcAbs addr s
  | .sbcIndY zp => Sys2Proof.Machine.execSbcIndY zp s
  | .sbcZpX zp => Sys2Proof.Machine.execSbcZpX zp s
  | .sbcAbsY base => Sys2Proof.Machine.execSbcAbsY base s
  | .sbcAbsX base => Sys2Proof.Machine.execSbcAbsX base s
  | .andIndX zp => Sys2Proof.Machine.execAndIndX zp s
  | .andZp zp => Sys2Proof.Machine.execAndZp zp s
  | .andImm imm => Sys2Proof.Machine.execAndImm imm s
  | .andAbs addr => Sys2Proof.Machine.execAndAbs addr s
  | .andIndY zp => Sys2Proof.Machine.execAndIndY zp s
  | .andZpX zp => Sys2Proof.Machine.execAndZpX zp s
  | .andAbsY base => Sys2Proof.Machine.execAndAbsY base s
  | .andAbsX base => Sys2Proof.Machine.execAndAbsX base s
  | .oraIndX zp => Sys2Proof.Machine.execOraIndX zp s
  | .oraZp zp => Sys2Proof.Machine.execOraZp zp s
  | .oraImm imm => Sys2Proof.Machine.execOraImm imm s
  | .oraAbs addr => Sys2Proof.Machine.execOraAbs addr s
  | .oraIndY zp => Sys2Proof.Machine.execOraIndY zp s
  | .oraZpX zp => Sys2Proof.Machine.execOraZpX zp s
  | .oraAbsY base => Sys2Proof.Machine.execOraAbsY base s
  | .oraAbsX base => Sys2Proof.Machine.execOraAbsX base s
  | .eorIndX zp => Sys2Proof.Machine.execEorIndX zp s
  | .eorZp zp => Sys2Proof.Machine.execEorZp zp s
  | .eorImm imm => Sys2Proof.Machine.execEorImm imm s
  | .eorAbs addr => Sys2Proof.Machine.execEorAbs addr s
  | .eorIndY zp => Sys2Proof.Machine.execEorIndY zp s
  | .eorZpX zp => Sys2Proof.Machine.execEorZpX zp s
  | .eorAbsY base => Sys2Proof.Machine.execEorAbsY base s
  | .eorAbsX base => Sys2Proof.Machine.execEorAbsX base s
  | .aslZp zp => Sys2Proof.Machine.execAslZp zp s
  | .aslAcc => Sys2Proof.Machine.execAslAcc s
  | .aslAbs addr => Sys2Proof.Machine.execAslAbs addr s
  | .aslZpX zp => Sys2Proof.Machine.execAslZpX zp s
  | .aslAbsX base => Sys2Proof.Machine.execAslAbsX base s
  | .lsrZp zp => Sys2Proof.Machine.execLsrZp zp s
  | .lsrAcc => Sys2Proof.Machine.execLsrAcc s
  | .lsrAbs addr => Sys2Proof.Machine.execLsrAbs addr s
  | .lsrZpX zp => Sys2Proof.Machine.execLsrZpX zp s
  | .lsrAbsX base => Sys2Proof.Machine.execLsrAbsX base s
  | .rolZp zp => Sys2Proof.Machine.execRolZp zp s
  | .rolAcc => Sys2Proof.Machine.execRolAcc s
  | .rolAbs addr => Sys2Proof.Machine.execRolAbs addr s
  | .rolZpX zp => Sys2Proof.Machine.execRolZpX zp s
  | .rolAbsX base => Sys2Proof.Machine.execRolAbsX base s
  | .rorZp zp => Sys2Proof.Machine.execRorZp zp s
  | .rorAcc => Sys2Proof.Machine.execRorAcc s
  | .rorAbs addr => Sys2Proof.Machine.execRorAbs addr s
  | .rorZpX zp => Sys2Proof.Machine.execRorZpX zp s
  | .rorAbsX base => Sys2Proof.Machine.execRorAbsX base s
  | .incZp zp => Sys2Proof.Machine.execIncZp zp s
  | .incAbs addr => Sys2Proof.Machine.execIncAbs addr s
  | .incZpX zp => Sys2Proof.Machine.execIncZpX zp s
  | .incAbsX base => Sys2Proof.Machine.execIncAbsX base s
  | .decZp zp => Sys2Proof.Machine.execDecZp zp s
  | .decAbs addr => Sys2Proof.Machine.execDecAbs addr s
  | .decZpX zp => Sys2Proof.Machine.execDecZpX zp s
  | .decAbsX base => Sys2Proof.Machine.execDecAbsX base s
  | .inx => Sys2Proof.Machine.execInx s
  | .iny => Sys2Proof.Machine.execIny s
  | .dex => Sys2Proof.Machine.execDex s
  | .dey => Sys2Proof.Machine.execDey s
  | .cmpIndX zp => Sys2Proof.Machine.execCmpIndX zp s
  | .cmpZp zp => Sys2Proof.Machine.execCmpZp zp s
  | .cmpImm imm => Sys2Proof.Machine.execCmpImm imm s
  | .cmpAbs addr => Sys2Proof.Machine.execCmpAbs addr s
  | .cmpIndY zp => Sys2Proof.Machine.execCmpIndY zp s
  | .cmpZpX zp => Sys2Proof.Machine.execCmpZpX zp s
  | .cmpAbsY base => Sys2Proof.Machine.execCmpAbsY base s
  | .cmpAbsX base => Sys2Proof.Machine.execCmpAbsX base s
  | .cpxImm imm => Sys2Proof.Machine.execCpxImm imm s
  | .cpxZp zp => Sys2Proof.Machine.execCpxZp zp s
  | .cpxAbs addr => Sys2Proof.Machine.execCpxAbs addr s
  | .cpyImm imm => Sys2Proof.Machine.execCpyImm imm s
  | .cpyZp zp => Sys2Proof.Machine.execCpyZp zp s
  | .cpyAbs addr => Sys2Proof.Machine.execCpyAbs addr s
  | .bitZp zp => Sys2Proof.Machine.execBitZp zp s
  | .bitAbs addr => Sys2Proof.Machine.execBitAbs addr s
  | .bpl off => Sys2Proof.Machine.execBpl off s
  | .bmi off => Sys2Proof.Machine.execBmi off s
  | .bvc off => Sys2Proof.Machine.execBvc off s
  | .bvs off => Sys2Proof.Machine.execBvs off s
  | .bcc off => Sys2Proof.Machine.execBcc off s
  | .bcs off => Sys2Proof.Machine.execBcs off s
  | .bne off => Sys2Proof.Machine.execBne off s
  | .beq off => Sys2Proof.Machine.execBeq off s
  | .pha => Sys2Proof.Machine.execPha s
  | .pla => Sys2Proof.Machine.execPla s
  | .php => Sys2Proof.Machine.execPhp s
  | .plp => Sys2Proof.Machine.execPlp s
  | .jsrAbs addr => Sys2Proof.Machine.execJsrAbs addr s
  | .rts => Sys2Proof.Machine.execRts s
  | .brk => Sys2Proof.Machine.execBrk s
  | .rti => Sys2Proof.Machine.execRti s
  | .jmpAbs addr => Sys2Proof.Machine.execJmpAbs addr s
  | .jmpInd ptr => Sys2Proof.Machine.execJmpInd ptr s
  | .tax => Sys2Proof.Machine.execTax s
  | .txa => Sys2Proof.Machine.execTxa s
  | .tay => Sys2Proof.Machine.execTay s
  | .tya => Sys2Proof.Machine.execTya s
  | .txs => Sys2Proof.Machine.execTxs s
  | .tsx => Sys2Proof.Machine.execTsx s
  | .sec => Sys2Proof.Machine.execSec s
  | .clc => Sys2Proof.Machine.execClc s
  | .sei => Sys2Proof.Machine.execSei s
  | .cli => Sys2Proof.Machine.execCli s
  | .sed => Sys2Proof.Machine.execSed s
  | .cld => Sys2Proof.Machine.execCld s
  | .clv => Sys2Proof.Machine.execClv s
  | .nop => Sys2Proof.Machine.execNop s
  | .stop => Sys2Proof.Machine.execStop s

end Sys2Proof.Machine
end

