-- ==== Sys2Proof/Machine/Fetch.lean ====
section
/-! DEFINITION. The fetch_unit and the step over every configuration (10_state.md R60, R61; 30_encoding.md
R124), and where a program's bytes are placed. -/

namespace Sys2Proof.Machine

/-- An instruction and the state after its operand bytes were read. -/
structure Fetched where
  instr : Instr
  state : State

/-- Reads the operand bytes a form has, each once, in increasing address order (R124). BRK's pad byte is not
read, and skipped by BRK itself (R364). -/
def fetchOperands : Form → State → Fetched
  | .bare i, s => { instr := i, state := s }
  | .padded i, s => { instr := i, state := s }
  | .byte f, s =>
    let r := s.fetch8
    { instr := f r.value, state := r.state }
  | .word f, s =>
    let l := s.fetch8
    let h := l.state.fetch8
    { instr := f (word h.value l.value), state := h.state }

/-- The state after the opcode fetch: its report, if any, PC past it, and then the trace record (R60, R411). -/
def State.fetchOpcode (s : State) : ByteRead :=
  let r := s.fetch8
  { value := r.value, state := r.state.emitTrace s.pc r.value }

/-- `step()` (R60): nothing when halted (R61); an unknown opcode halts (R404); else the instruction runs on the
state after its bytes are read. A configuration that is not valid is refused (R151, D31). -/
def stepWith (cfg : Config) (s : State) : Result :=
  if !cfg.valid then .refused .invalidConfig
  else if s.halted then .next s
  else
    let o := s.fetchOpcode
    match cfg.decodeOpcode o.value with
    | none => .next (o.state.raiseUnknownOpcode o.value s.pc)
    | some form =>
      let f := fetchOperands form o.state
      exec f.instr f.state

/-- Stores a byte where a read of the address finds it: RAM or ROM; nothing in the unmapped region. This is the
loading of a program from outside, no operation of the core. -/
def State.place (s : State) (a : Word) (v : Byte) : State :=
  if a.toNat < ramMirrorEnd then { s with ram := s.ram.write (ramIndex a) v }
  else if romBase ≤ a.toNat then { s with rom := s.rom.write (a.toNat - romBase) v }
  else s

/-- Places an instruction's bytes from PC on and lets the core run: `halted` is cleared, and a PC whose next
three bytes are not all in RAM or ROM is set to 0x0000 first (log entry 2). -/
def State.placeInstruction (s : State) (bytes : List Byte) : State :=
  let s := { s with halted := false }
  let s := if unmapped s.pc || unmapped (s.pc + 1) || unmapped (s.pc + 2) then s.setPc 0x0000 else s
  (s.place s.pc (bytes.getD 0 0x00)).place (s.pc + 1) (bytes.getD 1 0x00)
    |>.place (s.pc + 2) (bytes.getD 2 0x00)

end Sys2Proof.Machine
end

