-- ==== Sys2Proof/Machine/Step.lean ====
section
/-! DEFINITION. The step of the machine with the default parameters, and where its next instruction is stored. -/

namespace Sys2Proof.Machine

/-- `step()` with the default parameters (R60). -/
def step (s : State) : Host.Outcome State Fault Refusal := stepWith Config.default s

/-- The state with the instruction of a table word stored where the next step fetches it. -/
def State.withFetchWord (s : State) (nbits w : Nat) : State := s.placeInstruction (tableBytes nbits w)

end Sys2Proof.Machine
end

