-- ==== Sys2Proof/Machine/Reset.lean ====
section
/-! DEFINITION. The reset operation with an image, over every configuration (20_memory.md R102;
70_reset_and_hazards.md R450 to R458). -/

namespace Sys2Proof.Machine

/-- HEADER_SIZE (R18). -/
def headerSize : Nat := 16

/-- IMAGE_MIN_SIZE: header and ROM (R18). -/
def imageMinSize : Nat := headerSize + romSize

/-- The state with the image loaded and every parameter's reset value, PC still to be loaded (R453, R454,
R456). -/
def State.initial (cfg : Config) (image : List Byte) : State where
  a := cfg.resetA
  x := cfg.resetX
  y := cfg.resetY
  sp := cfg.resetSp
  pc := 0x0000
  flags := cfg.resetFlags
  halted := false
  cycles := cfg.resetCycles
  ram := Memory.ofBytes 0 (cfg.ramInit.take ramSize)
  rom := Memory.ofBytes 0 ((image.drop headerSize).take romSize)
  header := image.take headerSize
  events := []

/-- PC from the reset vector, low byte first (R455). -/
def State.loadResetVector (s : State) : State :=
  let v := s.readWord resetVector (resetVector + 1)
  v.state.setPc v.value

/-- `reset(image)` (R450): an image shorter than 32784 bytes is an ImageSizeError and yields no state (R406,
D30); bytes after the first 32784 are ignored (R102). The state before does not matter (R451). -/
def reset (cfg : Config) (image : List Byte) : Result :=
  if !cfg.valid then .refused .invalidConfig
  else if image.length < imageMinSize then .fault (.imageSizeError image.length)
  else .next (State.initial cfg image).loadResetVector

/-- The numeric code of a report (R401, D29). -/
def Report.code : Report → Nat
  | .unmappedAccess _ => 1
  | .unknownOpcode _ _ => 2
  | .imageSizeError _ => 3

/-- The report that goes with a failed reset (R401, R457). -/
def Fault.report : Fault → Report
  | .imageSizeError n => .imageSizeError n

end Sys2Proof.Machine
end

