-- ==== Sys2Proof/WellFormed.lean ====
section
/-! DEFINITION. The one check an instruction needs: its opcode is in SUPPORTED (30_encoding.md R153). The
widths of the operands are in their types, so no other ill-formed term can be written. -/

namespace Sys2Proof

/-- The instruction exists on a core with these parameters. -/
def Instr.wellFormed (cfg : Config) (i : Instr) : Bool := cfg.supports (i.opcode cfg)

end Sys2Proof
end

