-- ==== Sys2Proof/Safety.lean ====
section
/-! DEFINITION. The terms the claims are stated in: the invariant of the state, what an instruction may write
(10_state.md R41 to R43, R51), where it stores, what it costs (70_reset_and_hazards.md R470 to R472)
and how it is encoded (30_encoding.md R150). The machine uses none of them. -/

namespace Sys2Proof

/-! Operands. -/

/-- The memory form of an operand (R129 to R134, R136, R137). -/
def Arg.addrForm : Arg → Option Machine.AddrForm
  | .zp z => some (.zp z)
  | .zpx z => some (.zpx z)
  | .zpy z => some (.zpy z)
  | .abs w => some (.abs w)
  | .absx w => some (.absx w)
  | .absy w => some (.absy w)
  | .indx z => some (.indx z)
  | .indy z => some (.indy z)
  | .imp | .acc | .imm _ | .ind _ | .rel _ | .brk | .stop => none

/-- The operand of a reading instruction: the immediate byte or a memory form. -/
def Arg.source : Arg → Option Machine.Source
  | .imm b => some (.imm b)
  | a => a.addrForm.map .mem

/-- How many of the instruction's bytes the core reads: all, but for BRK's pad byte (R122, R364). -/
def Arg.bytesRead : Arg → Nat
  | .brk => 1
  | a => a.length

/-! Costs (R471, R472). -/

/-- Base cost of LDA LDX LDY ADC SBC AND ORA EOR CMP CPX CPY BIT by mode (R471). -/
def readCost : Mode → Nat
  | .imm => 2
  | .zp => 3
  | .zpx | .zpy | .abs | .absx | .absy => 4
  | .indx => 6
  | .indy => 5
  | .imp | .acc | .ind | .rel | .brk | .stop => 0

/-- Base cost of STA STX STY by mode (R471). -/
def storeCost : Mode → Nat
  | .zp => 3
  | .zpx | .zpy | .abs => 4
  | .absx | .absy => 5
  | .indx | .indy => 6
  | .imp | .acc | .imm | .ind | .rel | .brk | .stop => 0

/-- Base cost of ASL LSR ROL ROR INC DEC by mode (R471). -/
def modifyCost : Mode → Nat
  | .acc => 2
  | .zp => 5
  | .zpx | .abs => 6
  | .absx => 7
  | .imp | .imm | .zpy | .absy | .ind | .indx | .indy | .rel | .brk | .stop => 0

/-- The base cost by mnemonic and mode, the matrix of R471. -/
def Instr.baseCost (i : Instr) : Nat :=
  match i.mnemonic with
  | .lda | .ldx | .ldy | .adc | .sbc | .and | .ora | .eor | .cmp | .cpx | .cpy | .bit => readCost i.arg.mode
  | .sta | .stx | .sty => storeCost i.arg.mode
  | .asl | .lsr | .rol | .ror | .inc | .dec => modifyCost i.arg.mode
  | .inx | .iny | .dex | .dey | .tax | .txa | .tay | .tya | .txs | .tsx => 2
  | .sec | .clc | .sei | .cli | .sed | .cld | .clv | .nop => 2
  | .bpl | .bmi | .bvc | .bvs | .bcc | .bcs | .bne | .beq => 2
  | .pha | .php => 3
  | .pla | .plp => 4
  | .jsr | .rts | .rti => 6
  | .brk => 7
  | .jmp => if i.arg.mode = .ind then 5 else 3
  | .stop => 0

/-- The opcodes marked with the page penalty (R472): the reading mnemonics in their `absx`, `absy`, `indy`
forms. -/
def Instr.pagePenalty (i : Instr) : Bool :=
  [Mnemonic.lda, .ldx, .ldy, .adc, .sbc, .and, .ora, .eor, .cmp].contains i.mnemonic &&
    [Mode.absx, .absy, .indy].contains i.arg.mode

/-- The condition of a branch (R321 to R328); false for every other instruction. -/
def Instr.taken (i : Instr) (f : Flags) : Bool :=
  match i.mnemonic with
  | .bpl => !f.n
  | .bmi => f.n
  | .bvc => !f.v
  | .bvs => f.v
  | .bcc => !f.c
  | .bcs => f.c
  | .bne => !f.z
  | .beq => f.z
  | _ => false

/-! Encodings (R150). -/

/-- A line of an instruction's encoding table: opcode, mode, bytes, base cycles, and whether it pays one cycle
more when the indexed address crosses a page. -/
structure EncRow where
  op : Byte
  mode : Mode
  bytes : Nat
  cycles : Nat
  penalty : Bool
  deriving DecidableEq, Repr

/-- The encoding line of an instruction, with the default parameters. -/
def Instr.encRow (i : Instr) : EncRow where
  op := i.opcode Config.default
  mode := i.arg.mode
  bytes := i.arg.length
  cycles := i.baseCost
  penalty := i.pagePenalty

/-- The mnemonic has exactly these encodings: each of its instructions has one of the lines, and each line is
that of one of its instructions. -/
def HasRows (m : Mnemonic) (rows : List EncRow) : Prop :=
  (∀ i : Instr, i.mnemonic = m → i.encRow ∈ rows) ∧ (∀ r ∈ rows, ∃ i : Instr, i.mnemonic = m ∧ i.encRow = r)

/-- The 105 bytes assigned to no documented instruction (R152). -/
def unassignedBytes : List Byte :=
  [
    0x02, 0x03, 0x04, 0x07, 0x0B, 0x0C, 0x0F, 0x12, 0x13, 0x14, 0x17, 0x1A, 0x1B, 0x1C, 0x1F,
    0x22, 0x23, 0x27, 0x2B, 0x2F, 0x32, 0x33, 0x34, 0x37, 0x3A, 0x3B, 0x3C, 0x3F, 0x42, 0x43,
    0x44, 0x47, 0x4B, 0x4F, 0x52, 0x53, 0x54, 0x57, 0x5A, 0x5B, 0x5C, 0x5F, 0x62, 0x63, 0x64,
    0x67, 0x6B, 0x6F, 0x72, 0x73, 0x74, 0x77, 0x7A, 0x7B, 0x7C, 0x7F, 0x80, 0x82, 0x83, 0x87,
    0x89, 0x8B, 0x8F, 0x92, 0x93, 0x97, 0x9B, 0x9C, 0x9E, 0x9F, 0xA3, 0xA7, 0xAB, 0xAF, 0xB2,
    0xB3, 0xB7, 0xBB, 0xBF, 0xC2, 0xC3, 0xC7, 0xCB, 0xCF, 0xD2, 0xD3, 0xD4, 0xD7, 0xDA, 0xDB,
    0xDC, 0xDF, 0xE2, 0xE3, 0xE7, 0xEB, 0xEF, 0xF2, 0xF3, 0xF4, 0xF7, 0xFA, 0xFB, 0xFC, 0xFF]

/-! Shifts and rotates in integers (R261 to R264): the result and the bit shifted off. -/

/-- ASL doubles, LSR halves, ROL doubles and adds the carry, ROR halves and adds 128 times the carry. -/
def Mnemonic.shifted (m : Mnemonic) (v : Byte) (c : Bool) : Byte × Bool :=
  match m with
  | .asl => (BitVec.ofNat 8 (2 * v.toNat), decide (128 ≤ v.toNat))
  | .lsr => (BitVec.ofNat 8 (v.toNat / 2), decide (v.toNat % 2 = 1))
  | .rol => (BitVec.ofNat 8 (2 * v.toNat + c.toNat), decide (128 ≤ v.toNat))
  | .ror => (BitVec.ofNat 8 (v.toNat / 2 + 128 * c.toNat), decide (v.toNat % 2 = 1))
  | _ => (v, c)

/-! What an instruction writes (R41 to R43, R51). -/

/-- The writers of A (R41). -/
def Instr.writesA (i : Instr) : Bool :=
  [Mnemonic.lda, .adc, .sbc, .and, .ora, .eor, .pla, .txa, .tya].contains i.mnemonic || i.arg.mode == .acc

/-- The writers of X (R42). -/
def Instr.writesX (i : Instr) : Bool := [Mnemonic.ldx, .inx, .dex, .tax, .tsx].contains i.mnemonic

/-- The writers of Y (R42). -/
def Instr.writesY (i : Instr) : Bool := [Mnemonic.ldy, .iny, .dey, .tay].contains i.mnemonic

/-- The writers of SP (R43). -/
def Instr.writesSp (i : Instr) : Bool :=
  [Mnemonic.txs, .pha, .pla, .php, .plp, .jsr, .rts, .brk, .rti].contains i.mnemonic

/-- The instructions that overwrite PC: branches, jumps, calls, returns and BRK (R44). -/
def Instr.writesPc (i : Instr) : Bool :=
  [Mnemonic.bpl, .bmi, .bvc, .bvs, .bcc, .bcs, .bne, .beq, .jmp, .jsr, .rts, .brk, .rti].contains i.mnemonic

/-- The writers of C (R51). -/
def Instr.writesC (i : Instr) : Bool :=
  [Mnemonic.adc, .sbc, .asl, .lsr, .rol, .ror, .cmp, .cpx, .cpy, .sec, .clc, .plp, .rti].contains i.mnemonic

/-- The writers of Z, and of N (R51). -/
def Instr.writesZN (i : Instr) : Bool :=
  [Mnemonic.lda, .ldx, .ldy, .adc, .sbc, .and, .ora, .eor, .asl, .lsr, .rol, .ror, .inc, .dec, .inx, .iny,
    .dex, .dey, .cmp, .cpx, .cpy, .bit, .pla, .tax, .txa, .tay, .tya, .tsx, .plp, .rti].contains i.mnemonic

/-- The writers of V (R51). -/
def Instr.writesV (i : Instr) : Bool :=
  [Mnemonic.adc, .sbc, .bit, .clv, .plp, .rti].contains i.mnemonic

/-- The writers of I (R51). -/
def Instr.writesI (i : Instr) : Bool := [Mnemonic.sei, .cli, .brk, .plp, .rti].contains i.mnemonic

/-- The writers of D (R51). -/
def Instr.writesD (i : Instr) : Bool := [Mnemonic.sed, .cld, .plp, .rti].contains i.mnemonic

end Sys2Proof

namespace Sys2Proof.Machine

/-! The invariant and the parts of the state. -/

/-- The invariant: RAM and ROM are in canonical form with indexes in range, and the header has 16 bytes
(R57, R81 to R83). -/
def State.wf (s : State) : Bool :=
  Memory.wf ramSize s.ram && Memory.wf romSize s.rom && s.header.length == headerSize

/-- The state less what no instruction depends on: `cycles` (R474), the header (R83) and the outputs of the two
streams (R431). -/
def State.visible (s : State) : State :=
  { s with cycles := 0, header := [], events := [] }

/-! Reads. -/

/-- The report a read of an address makes (R84, R402): one, or none. -/
def accessReport (a : Word) : List Event := if unmapped a then [.report (.unmappedAccess a)] else []

/-- The state after reads of the listed addresses: their reports in order, and nothing else (R85, R403). -/
def State.afterReads (s : State) (addrs : List Word) : State :=
  { s with events := s.events ++ addrs.flatMap accessReport }

/-- The byte an operand reads as. -/
def Source.byteAt (src : Source) (s : State) : Byte :=
  match src with
  | .imm b => b
  | .mem f => s.peek (f.resolve s).ea

/-- The data addresses an operand reads. -/
def Source.addrs (src : Source) (s : State) : List Word :=
  match src with
  | .imm _ => []
  | .mem f => [(f.resolve s).ea]

/-- The record a fetch emits (R430). -/
def State.traceRecord (s : State) : TraceRecord :=
  { pc0 := s.pc, op := s.peek s.pc, a := s.a, x := s.x, y := s.y, sp := s.sp, p := s.flags.pack,
    cycles := s.cycles }

/-- The addresses of the operand bytes the fetch of an instruction reads: those after the opcode, wrapping (R44,
R124). -/
def State.operandAddrs (s : State) (i : Instr) : List Word :=
  (List.range (i.arg.bytesRead - 1)).map fun k => s.pc + 1 + BitVec.ofNat 16 k

/-- What the fetch of an opcode emits: the report of its read, if any, then the trace record (R411). -/
def State.opcodeEvents (s : State) : List Event := accessReport s.pc ++ [.trace s.traceRecord]

/-- The state in which an instruction at PC is executed: its bytes read, PC past them, the opcode's outputs and
then the reports of its operand bytes emitted (R60, R124, R411, R430). -/
def State.afterFetch (s : State) (i : Instr) : State :=
  { s with
    pc := s.pc + BitVec.ofNat 16 i.arg.bytesRead
    events := s.events ++ s.opcodeEvents ++ (s.operandAddrs i).flatMap accessReport }

/-- The reads an effective address takes: the two bytes of a zero-page pointer, low byte first (R136, R137). -/
def AddrForm.pointerReads (f : AddrForm) (s : State) : List Word :=
  match f with
  | .indx z => [zeroPage (z + s.x), zeroPage (z + s.x + 1)]
  | .indy z => [zeroPage z, zeroPage (z + 1)]
  | .zp _ | .zpx _ | .zpy _ | .abs _ | .absx _ | .absy _ => []

/-- The addresses an instruction reads after its own bytes, in the order of the reads (R95): pointer bytes before
data, the low byte of a word before its high byte, pulls upwards. `s` is the state it is executed in. -/
def dataReads (i : Instr) (s : State) : List Word :=
  match i.mnemonic with
  | .lda | .ldx | .ldy | .adc | .sbc | .and | .ora | .eor | .cmp | .cpx | .cpy | .bit
  | .asl | .lsr | .rol | .ror | .inc | .dec =>
    match i.arg.addrForm with
    | some f => f.pointerReads s ++ [(f.resolve s).ea]
    | none => []
  | .sta | .stx | .sty =>
    match i.arg.addrForm with
    | some f => f.pointerReads s
    | none => []
  | .jmp =>
    match i.arg with
    | .ind p => [p, word (hi p) (lo p + 1)]
    | _ => []
  | .pla | .plp => [stackAddr (s.sp + 1)]
  | .rts => [stackAddr (s.sp + 1), stackAddr (s.sp + 2)]
  | .rti => [stackAddr (s.sp + 1), stackAddr (s.sp + 2), stackAddr (s.sp + 3)]
  | .brk => [0xFFFE, 0xFFFF]
  | _ => []

/-! Stores. -/

/-- A store to `b` can change what a read of `a` returns: `a` reads RAM and both name one cell (R84, R86). -/
def sharesCell (a b : Word) : Prop := a.toNat < ramMirrorEnd ∧ ramIndex a = ramIndex b

/-- The addresses an instruction stores to, in the state it is executed in: the effective address of a store or
a read-modify-write, the stack bytes of a push (R204 to R206, R260, R280, R340, R360, R364). -/
def storedAddrs (i : Instr) (s : State) : List Word :=
  match i.mnemonic with
  | .sta | .stx | .sty | .asl | .lsr | .rol | .ror | .inc | .dec =>
    match i.arg.addrForm with
    | some f => [(f.resolve s).ea]
    | none => []
  | .pha | .php => [stackAddr s.sp]
  | .jsr => [stackAddr s.sp, stackAddr (s.sp - 1)]
  | .brk => [stackAddr s.sp, stackAddr (s.sp - 1), stackAddr (s.sp - 2)]
  | _ => []

/-! Costs. -/

/-- The page-crossing bit of an instruction's operand (R125). -/
def crossed (i : Instr) (s : State) : Bool :=
  match i.arg.addrForm with
  | some f => (f.resolve s).crossed
  | none => false

/-- What a taken branch costs more than 2: one, and one more when the target lies on another page than the next
instruction (R320). -/
def branchExtra (i : Instr) (s : State) : Nat :=
  match i.arg with
  | .rel off => if i.taken s.flags then 1 + (pageDiffers s.pc (branchTarget s.pc off)).toNat else 0
  | _ => 0

/-- The cost of an instruction in the state it is executed in (R470). -/
def cost (i : Instr) (s : State) : Nat :=
  i.baseCost + (i.pagePenalty && crossed i s).toNat + branchExtra i s

/-! The stack. -/

/-- The listed bytes pushed, first to last (R340). -/
def State.pushAll (s : State) (vs : List Byte) : State := vs.foldl State.push s

/-- A number of pulls: the bytes, first pulled first, and the state after them (R341). -/
def State.pullMany : Nat → State → List Byte × State
  | 0, s => ([], s)
  | n + 1, s =>
    let r := s.pull
    let rest := State.pullMany n r.state
    (r.value :: rest.1, rest.2)

end Sys2Proof.Machine
end

