-- ==== Sys2Proof/Certificates/Slice0/Obligations.lean ====
section
/-! DEFINITION. The statements about the machine, each from the rules of spec/ its docstring names. -/

open Sys2Proof Sys2Proof.Machine

/-- O1. For all instructions, decode and encode agree (R120 to R123, R150, R151). -/
def Obligations.DecodeOfEncode : Prop :=
  ∀ cfg : Config, cfg.valid = true → ∀ i : Instr, i.wellFormed cfg = true → ∀ rest : List Byte,
    decode cfg (encode cfg i ++ rest) = .ok i rest

/-- O2. The other direction: every accepted byte string is the encoding of the instruction read, but for the value of BRK's pad byte (R121, R150, R364). -/
def Obligations.EncodeOfDecode : Prop :=
  ∀ cfg : Config, cfg.valid = true → ∀ (bytes : List Byte) (i : Instr) (rest : List Byte),
    decode cfg bytes = .ok i rest →
      i.wellFormed cfg = true ∧
      ((i ≠ .brk ∧ bytes = encode cfg i ++ rest) ∨
        (i = .brk ∧ ∃ tail, bytes = 0x00 :: tail ∧ rest = tail.drop 1))

/-- O3. A few words per family, written out from R150 and R155. -/
def Obligations.SampleWordsDecode : Prop :=
  decode Config.default [0xA9, 0x05] = .ok (.ldaImm 0x05) [] ∧
  decode Config.default [0xB6, 0x10] = .ok (.ldxZpY 0x10) [] ∧
  decode Config.default [0x8D, 0x00, 0x02] = .ok (.staAbs 0x0200) [] ∧
  decode Config.default [0x7D, 0xFE, 0x80] = .ok (.adcAbsX 0x80FE) [] ∧
  decode Config.default [0x51, 0x20] = .ok (.eorIndY 0x20) [] ∧
  decode Config.default [0x0A] = .ok .aslAcc [] ∧
  decode Config.default [0xE8] = .ok .inx [] ∧
  decode Config.default [0x24, 0x10] = .ok (.bitZp 0x10) [] ∧
  decode Config.default [0xF0, 0x0E] = .ok (.beq 0x0E) [] ∧
  decode Config.default [0x68] = .ok .pla [] ∧
  decode Config.default [0x6C, 0xFF, 0x30] = .ok (.jmpInd 0x30FF) [] ∧
  decode Config.default [0x00, 0xEA] = .ok .brk [] ∧
  decode Config.default [0xBA] = .ok .tsx [] ∧
  decode Config.default [0x02] = .ok .stop [] ∧
  decode Config.default [0xFF] = .reject (.unknownOpcode 0xFF)

/-- O4. R152: the 105 bytes assigned to no documented instruction; one is STOP_OPCODE, the others are unknown and halt the core. -/
def Obligations.UnassignedBytesHalt : Prop :=
  unassignedBytes.length = 105 ∧
  (∀ op : Byte, documented op = false ↔ op ∈ unassignedBytes) ∧
  ∀ cfg : Config, cfg.valid = true →
    cfg.stopOpcode ∈ unassignedBytes ∧
    ∀ op ∈ unassignedBytes, op ≠ cfg.stopOpcode →
      cfg.decodeOpcode op = none ∧
      ∀ s : State, s.halted = false → s.peek s.pc = op → ∃ t, stepWith cfg s = .next t ∧ t.halted = true

/-- O5. R59 and R153: decode gives the row of a supported opcode and unknown otherwise; the default is all 152; a left-out opcode halts; the choice of the set alters no supported opcode. -/
def Obligations.SupportedOpcodesDecode : Prop :=
  (∀ op : Byte, Config.default.supports op = true ↔ documented op = true ∨ op = 0x02) ∧
  ∀ cfg : Config, cfg.valid = true → ∀ op : Byte,
    (cfg.decodeOpcode op = none ↔ cfg.supports op = false) ∧
    (cfg.supports op = true → op ≠ cfg.stopOpcode → cfg.decodeOpcode op = documentedForm op) ∧
    (cfg.supports op = true → op = cfg.stopOpcode → cfg.decodeOpcode op = some (.bare .stop)) ∧
    (op ∈ cfg.leftOut → ∀ s : State, s.halted = false → s.peek s.pc = op →
      ∃ t, stepWith cfg s = .next t ∧ t.halted = true) ∧
    (∀ l : List Byte, cfg.supports op = true → ({ cfg with leftOut := l } : Config).supports op = true →
      ({ cfg with leftOut := l } : Config).decodeOpcode op = cfg.decodeOpcode op)

/-- O6. R151, D31: STOP is one byte; a STOP_OPCODE that is a documented opcode is refused. The form of the refusal,
`invalidConfig` from every step and every reset, is the model's choice (log entry 8, DEDUCED). -/
def Obligations.StopOpcodeIsUnassigned : Prop :=
  Config.default.stopOpcode = 0x02 ∧ Config.default.valid = true ∧
  ∀ cfg : Config, encode cfg .stop = [cfg.stopOpcode] ∧
    (documented cfg.stopOpcode = true →
      (∀ s : State, stepWith cfg s = .refused .invalidConfig) ∧
      (∀ image : List Byte, reset cfg image = .refused .invalidConfig))

/-- O7. R60, R124 and R411: the step fetches, decodes and executes. That `step` takes the default parameters is the
model's choice (log entry 4, DESIGN CHOICE), and so is the cut between the fetch and `exec`, with PC past the
opcode alone for BRK (log entry 14, DESIGN CHOICE). -/
def Obligations.StepRunsDecoded : Prop :=
  (∀ s : State, step s = stepWith Config.default s) ∧
  ∀ (cfg : Config) (s : State) (i : Instr) (rest : List Byte), cfg.valid = true → s.halted = false →
    decode cfg [s.peek s.pc, s.peek (s.pc + 1), s.peek (s.pc + 2)] = .ok i rest →
      stepWith cfg s = exec i (s.afterFetch i)

/-- O8. R61: a halted core's step reads nothing, emits nothing and changes nothing. -/
def Obligations.HaltedStepIsIdle : Prop :=
  ∀ (cfg : Config) (s : State), cfg.valid = true → s.halted = true → stepWith cfg s = .next s

/-- O9. R395 and R404: the whole state after an unknown opcode. -/
def Obligations.UnknownOpcodeHalts : Prop :=
  ∀ (cfg : Config) (s : State), cfg.valid = true → s.halted = false → cfg.supports (s.peek s.pc) = false →
    stepWith cfg s = .next
      { s with
        halted := true
        pc := s.pc + 1
        events := s.events ++ accessReport s.pc ++
          [.trace s.traceRecord, .report (.unknownOpcode (s.peek s.pc) s.pc)] }

/-- O10. R400, R407, R425: no exception, no privilege; every instruction runs in every state. -/
def Obligations.StepAlwaysAnswers : Prop :=
  (∀ (i : Instr) (s : State), ∃ t, exec i s = .next t) ∧
  ∀ (cfg : Config) (s : State), cfg.valid = true → ∃ t, stepWith cfg s = .next t

/-- O11. R57, R81 to R83: the invariant `State.wf` is kept by every step. -/
def Obligations.StepKeepsWf : Prop :=
  ∀ (cfg : Config) (s t : State), cfg.valid = true → s.wf = true → stepWith cfg s = .next t → t.wf = true

/-- O12. The invariant holds at reset. -/
def Obligations.ResetIsWf : Prop :=
  State.reset.wf = true

/-- O13. R102, R450: reset with any image establishes the invariant. -/
def Obligations.LoadedStateIsWf : Prop :=
  ∀ (cfg : Config) (image : List Byte) (t : State), reset cfg image = .next t → t.wf = true

/-- O14. R54: halted is set by STOP or an unrecognised opcode alone, and stays. -/
def Obligations.HaltedExactlyByStopOrUnknown : Prop :=
  (∀ (cfg : Config) (image : List Byte) (t : State), reset cfg image = .next t → t.halted = false) ∧
  (∀ (cfg : Config) (s t : State), cfg.valid = true → s.halted = false → stepWith cfg s = .next t →
    (t.halted = true ↔ s.peek s.pc = cfg.stopOpcode ∨ cfg.supports (s.peek s.pc) = false)) ∧
  (∀ (cfg : Config) (s t : State), cfg.valid = true → s.halted = true → stepWith cfg s = .next t → t = s)

/-- O15. R55, R57, R82, R83: what a step can only leave or extend. -/
def Obligations.StepOnlyAppends : Prop :=
  ∀ (cfg : Config) (s t : State), cfg.valid = true → stepWith cfg s = .next t →
    t.rom = s.rom ∧ t.header = s.header ∧ s.cycles ≤ t.cycles ∧ s.events <+: t.events ∧ s.trace <+: t.trace ∧
      s.report <+: t.report

/-- O16. R430: one record per opcode fetch. -/
def Obligations.TraceRecordPerFetch : Prop :=
  ∀ (cfg : Config) (s t : State), cfg.valid = true → s.halted = false → stepWith cfg s = .next t →
    t.trace = s.trace ++
      [{ pc0 := s.pc, op := s.peek s.pc, a := s.a, x := s.x, y := s.y, sp := s.sp, p := s.flags.pack,
         cycles := s.cycles }]

/-- O17. R83, R431, R474: the output streams, cycles and the header are read by nothing. -/
def Obligations.StepIgnoresOutputs : Prop :=
  ∀ (cfg : Config) (s s' t t' : State), cfg.valid = true → s.visible = s'.visible →
    stepWith cfg s = .next t → stepWith cfg s' = .next t' → t.visible = t'.visible

/-- O18. R458 with the defaults of R18, which the model chose (log entries 1 to 3). -/
def Obligations.ResetValues : Prop :=
  State.reset.a = 0x00 ∧ State.reset.x = 0x00 ∧ State.reset.y = 0x00 ∧ State.reset.sp = 0xFD ∧
  State.reset.flags = { c := false, z := false, i := true, d := false, v := false, n := false } ∧
  State.reset.halted = false ∧ State.reset.cycles = 0 ∧
  State.reset.pc = word (State.reset.peek 0xFFFD) (State.reset.peek 0xFFFC) ∧
  (∀ k, State.reset.ram.read k = 0x00) ∧ (∀ k, State.reset.rom.read k = 0x00) ∧
  State.reset.events = [] ∧ State.reset.trace = [] ∧ State.reset.report = []

/-- O19. R454 to R457, over every value of the OPEN parameters. The zeros past the end of a `ramInit` shorter than 2048
bytes are the model's choice (log entry 3, DESIGN CHOICE). -/
def Obligations.ResetLoadsParametersAndVector : Prop :=
  ∀ (cfg : Config) (image : List Byte), cfg.valid = true → 32784 ≤ image.length →
    ∃ t, reset cfg image = .next t ∧
      t.a = cfg.resetA ∧ t.x = cfg.resetX ∧ t.y = cfg.resetY ∧ t.sp = cfg.resetSp ∧
      t.flags = cfg.resetFlags ∧ t.halted = false ∧ t.cycles = cfg.resetCycles ∧
      t.pc = word (t.peek 0xFFFD) (t.peek 0xFFFC) ∧
      t.pc = word (t.rom.read 0x7FFD) (t.rom.read 0x7FFC) ∧
      (∀ k < 2048, t.ram.read k = cfg.ramInit.getD k 0x00) ∧
      t.trace = [] ∧ t.report = []

/-- O20. R102: loadImage. -/
def Obligations.ImageLoading : Prop :=
  ∀ (cfg : Config) (image : List Byte), cfg.valid = true →
    (image.length < 32784 → reset cfg image = .fault (.imageSizeError image.length)) ∧
    (32784 ≤ image.length →
      ∃ t, reset cfg image = .next t ∧ t.header = image.take 16 ∧
        ∀ i < 32768, t.rom.read i = image.getD (16 + i) 0x00) ∧
    (32784 ≤ image.length → reset cfg image = reset cfg (image.take 32784))

/-- O21. The fixed reset state is a value of the reset operation (log entry 2). -/
def Obligations.ZeroImageGivesReset : Prop :=
  reset Config.default (List.replicate 32784 0x00) = .next State.reset

/-- O22. R84 and R85: MemRead. -/
def Obligations.MemReadMap : Prop :=
  ∀ (s : State) (a : Word),
    if a.toNat < 0x2000 then
      (s.memRead a).value = s.ram.read (a.toNat % 2048) ∧ (s.memRead a).state = s
    else if 0x8000 ≤ a.toNat then
      (s.memRead a).value = s.rom.read (a.toNat - 0x8000) ∧ (s.memRead a).state = s
    else
      (s.memRead a).value = 0x00 ∧
        (s.memRead a).state = { s with events := s.events ++ [.report (.unmappedAccess a)] }

/-- O23. R86: MemWrite, and what a program can observe of it. -/
def Obligations.ReadAfterWrite : Prop :=
  ∀ (s : State) (a : Word) (v : Byte), s.wf = true →
    s.memWrite a v = { s with ram := (s.memWrite a v).ram } ∧
    (s.memWrite a v).ram.read (a.toNat % 2048) = v ∧
    ∀ b : Word, (s.memWrite a v).peek b =
      if b.toNat < 0x2000 ∧ b.toNat % 2048 = a.toNat % 2048 then v else s.peek b

/-- O24. The canonical form is canonical. It is the model's choice and no rule's: the sparse lists of log entry 12 (DESIGN
CHOICE), with 0x00 for an unlisted cell (log entry 3). -/
def Obligations.EqualContentsEqualMemories : Prop :=
  ∀ (size : Nat) (m m' : Memory), m.wf size = true → m'.wf size = true →
    (∀ k, m.read k = m'.read k) → m = m'

/-- O25. R129 to R134, R138: in integers. That resolving changes no state holds of `indx` and `indy` too (R136, R137): R90
states that zero-page reads never report, and the model follows it against R204's remark on the pointers of stores
(log entry 13, DEDUCED). -/
def Obligations.DirectModes : Prop :=
  (∀ (s : State) (z : Byte),
    ((AddrForm.zp z).resolve s).ea.toNat = z.toNat ∧
    ((AddrForm.zpx z).resolve s).ea.toNat = (z.toNat + s.x.toNat) % 256 ∧
    ((AddrForm.zpy z).resolve s).ea.toNat = (z.toNat + s.y.toNat) % 256 ∧
    ((AddrForm.zp z).resolve s).crossed = false ∧ ((AddrForm.zpx z).resolve s).crossed = false ∧
    ((AddrForm.zpy z).resolve s).crossed = false) ∧
  (∀ (s : State) (w : Word),
    ((AddrForm.abs w).resolve s).ea = w ∧ ((AddrForm.abs w).resolve s).crossed = false ∧
    ((AddrForm.absx w).resolve s).ea.toNat = (w.toNat + s.x.toNat) % 65536 ∧
    ((AddrForm.absy w).resolve s).ea.toNat = (w.toNat + s.y.toNat) % 65536 ∧
    (((AddrForm.absx w).resolve s).crossed = true ↔
      w.toNat / 256 ≠ ((AddrForm.absx w).resolve s).ea.toNat / 256) ∧
    (((AddrForm.absy w).resolve s).crossed = true ↔
      w.toNat / 256 ≠ ((AddrForm.absy w).resolve s).ea.toNat / 256)) ∧
  (∀ (f : AddrForm) (s : State), (f.resolve s).state = s) ∧
  (∀ (pc : Word) (off : Byte), branchTarget pc off = BitVec.ofInt 16 (pc.toNat + off.toInt))

/-- O26. R136 and R137: in RAM cells. -/
def Obligations.PointerModes : Prop :=
  ∀ (s : State) (z : Byte),
    ((AddrForm.indx z).resolve s).ea.toNat =
      (s.ram.read ((z.toNat + s.x.toNat + 1) % 256)).toNat * 256 +
        (s.ram.read ((z.toNat + s.x.toNat) % 256)).toNat ∧
    ((AddrForm.indx z).resolve s).crossed = false ∧
    ((AddrForm.indy z).resolve s).ea.toNat =
      ((s.ram.read ((z.toNat + 1) % 256)).toNat * 256 + (s.ram.read z.toNat).toNat + s.y.toNat) % 65536 ∧
    (((AddrForm.indy z).resolve s).crossed = true ↔
      (s.ram.read ((z.toNat + 1) % 256)).toNat ≠ ((AddrForm.indy z).resolve s).ea.toNat / 256)

/-- O27. R48 and R49. -/
def Obligations.PackAndUnpack : Prop :=
  (∀ f : Flags,
    f.pack.toNat = f.n.toNat * 128 + f.v.toNat * 64 + 32 + 16 + f.d.toNat * 8 + f.i.toNat * 4 +
      f.z.toNat * 2 + f.c.toNat ∧
    Flags.unpack f.pack = f) ∧
  ∀ b : Byte,
    Flags.unpack b =
      { c := b.getLsbD 0, z := b.getLsbD 1, i := b.getLsbD 2, d := b.getLsbD 3, v := b.getLsbD 6,
        n := b.getLsbD 7 } ∧
    (Flags.unpack b).pack = b ||| 0x30

/-- O28. R50. -/
def Obligations.SetZNRule : Prop :=
  ∀ (s : State) (v : Byte),
    s.setZN v = { s with flags := { s.flags with z := decide (v = 0x00), n := decide (128 ≤ v.toNat) } } ∧
    s.flags.withZN v = (s.setZN v).flags

/-- O29. R220. -/
def Obligations.AdcInIntegers : Prop :=
  ∀ (a m : Byte) (c : Bool),
    (adc8 a m c).value.toNat = (a.toNat + m.toNat + c.toNat) % 256 ∧
    (adc8 a m c).carry = decide (a.toNat + m.toNat + c.toNat > 255) ∧
    (adc8 a m c).overflow = decide ((~~~(a ^^^ m) &&& (a ^^^ (adc8 a m c).value) &&& 0x80) ≠ 0x00) ∧
    ((adc8 a m c).overflow = true ↔
      a.toInt + m.toInt + c.toNat < -128 ∨ 127 < a.toInt + m.toInt + c.toNat)

/-- O30. R221. -/
def Obligations.SbcInIntegers : Prop :=
  ∀ (a m : Byte) (c : Bool),
    (sbc8 a m c).value = (adc8 a (~~~m) c).value ∧ (sbc8 a m c).carry = (adc8 a (~~~m) c).carry ∧
    (sbc8 a m c).overflow = decide (((a ^^^ (sbc8 a m c).value) &&& (a ^^^ m) &&& 0x80) ≠ 0x00) ∧
    (sbc8 a m c).overflow = (adc8 a (~~~m) c).overflow ∧
    (sbc8 a m true).value = a - m ∧ (sbc8 a m true).carry = decide (m.toNat ≤ a.toNat) ∧
    (sbc8 a m false).value = a - m - 1 ∧ (sbc8 a m false).carry = decide (m.toNat < a.toNat) ∧
    ((sbc8 a m c).overflow = true ↔
      a.toInt - m.toInt - (!c).toNat < -128 ∨ 127 < a.toInt - m.toInt - (!c).toNat)

/-- O31. R225. -/
def Obligations.AdcSbcRoundTrip : Prop :=
  ∀ a b : Byte,
    (sbc8 (adc8 a b false).value b true).value = a ∧
    ((sbc8 (adc8 a b false).value b (adc8 a b false).carry).value = a ↔ a.toNat + b.toNat > 255)

/-- O32. R222. -/
def Obligations.DecimalFlagIsIgnored : Prop :=
  ∀ (i : Instr) (s t : State) (b : Bool), i.mnemonic = .adc ∨ i.mnemonic = .sbc → exec i s = .next t →
    exec i { s with flags := { s.flags with d := b } } =
      .next { t with flags := { t.flags with d := b } }

/-- O33. R201, R202, R203: encodings and the whole next state. -/
def Obligations.LoadInstructions : Prop :=
  HasRows .lda
    [⟨0xA1, .indx, 2, 6, false⟩, ⟨0xA5, .zp, 2, 3, false⟩, ⟨0xA9, .imm, 2, 2, false⟩,
     ⟨0xAD, .abs, 3, 4, false⟩, ⟨0xB1, .indy, 2, 5, true⟩, ⟨0xB5, .zpx, 2, 4, false⟩,
     ⟨0xB9, .absy, 3, 4, true⟩, ⟨0xBD, .absx, 3, 4, true⟩] ∧
  HasRows .ldx
    [⟨0xA2, .imm, 2, 2, false⟩, ⟨0xA6, .zp, 2, 3, false⟩, ⟨0xAE, .abs, 3, 4, false⟩,
     ⟨0xB6, .zpy, 2, 4, false⟩, ⟨0xBE, .absy, 3, 4, true⟩] ∧
  HasRows .ldy
    [⟨0xA0, .imm, 2, 2, false⟩, ⟨0xA4, .zp, 2, 3, false⟩, ⟨0xAC, .abs, 3, 4, false⟩,
     ⟨0xB4, .zpx, 2, 4, false⟩, ⟨0xBC, .absx, 3, 4, true⟩] ∧
  (∀ (i : Instr) (s : State), i.mnemonic = .lda → ∃ src, i.arg.source = some src ∧
    exec i s = .next
      { s.afterReads (src.addrs s) with
        a := src.byteAt s
        flags := s.flags.withZN (src.byteAt s)
        cycles := s.cycles + cost i s }) ∧
  (∀ (i : Instr) (s : State), i.mnemonic = .ldx → ∃ src, i.arg.source = some src ∧
    exec i s = .next
      { s.afterReads (src.addrs s) with
        x := src.byteAt s
        flags := s.flags.withZN (src.byteAt s)
        cycles := s.cycles + cost i s }) ∧
  (∀ (i : Instr) (s : State), i.mnemonic = .ldy → ∃ src, i.arg.source = some src ∧
    exec i s = .next
      { s.afterReads (src.addrs s) with
        y := src.byteAt s
        flags := s.flags.withZN (src.byteAt s)
        cycles := s.cycles + cost i s })

/-- O34. R204, R205, R206: encodings and the whole next state. R204 says that the pointer reads of `indx` and `indy` can
report; that they never do follows R90 and the map of R88, and is the model's choice against R204's remark (log
entry 13, DEDUCED). -/
def Obligations.StoreInstructions : Prop :=
  HasRows .sta
    [⟨0x81, .indx, 2, 6, false⟩, ⟨0x85, .zp, 2, 3, false⟩, ⟨0x8D, .abs, 3, 4, false⟩,
     ⟨0x91, .indy, 2, 6, false⟩, ⟨0x95, .zpx, 2, 4, false⟩, ⟨0x99, .absy, 3, 5, false⟩,
     ⟨0x9D, .absx, 3, 5, false⟩] ∧
  HasRows .stx
    [⟨0x86, .zp, 2, 3, false⟩, ⟨0x8E, .abs, 3, 4, false⟩, ⟨0x96, .zpy, 2, 4, false⟩] ∧
  HasRows .sty
    [⟨0x84, .zp, 2, 3, false⟩, ⟨0x8C, .abs, 3, 4, false⟩, ⟨0x94, .zpx, 2, 4, false⟩] ∧
  (∀ (i : Instr) (s : State), i.mnemonic = .sta → ∃ f, i.arg.addrForm = some f ∧
    exec i s = .next { s.memWrite (f.resolve s).ea s.a with cycles := s.cycles + i.baseCost }) ∧
  (∀ (i : Instr) (s : State), i.mnemonic = .stx → ∃ f, i.arg.addrForm = some f ∧
    exec i s = .next { s.memWrite (f.resolve s).ea s.x with cycles := s.cycles + i.baseCost }) ∧
  (∀ (i : Instr) (s : State), i.mnemonic = .sty → ∃ f, i.arg.addrForm = some f ∧
    exec i s = .next { s.memWrite (f.resolve s).ea s.y with cycles := s.cycles + i.baseCost })

/-- O35. R223, R224: encodings and the whole next state. -/
def Obligations.AddAndSubtractInstructions : Prop :=
  HasRows .adc
    [⟨0x61, .indx, 2, 6, false⟩, ⟨0x65, .zp, 2, 3, false⟩, ⟨0x69, .imm, 2, 2, false⟩,
     ⟨0x6D, .abs, 3, 4, false⟩, ⟨0x71, .indy, 2, 5, true⟩, ⟨0x75, .zpx, 2, 4, false⟩,
     ⟨0x79, .absy, 3, 4, true⟩, ⟨0x7D, .absx, 3, 4, true⟩] ∧
  HasRows .sbc
    [⟨0xE1, .indx, 2, 6, false⟩, ⟨0xE5, .zp, 2, 3, false⟩, ⟨0xE9, .imm, 2, 2, false⟩,
     ⟨0xED, .abs, 3, 4, false⟩, ⟨0xF1, .indy, 2, 5, true⟩, ⟨0xF5, .zpx, 2, 4, false⟩,
     ⟨0xF9, .absy, 3, 4, true⟩, ⟨0xFD, .absx, 3, 4, true⟩] ∧
  (∀ (i : Instr) (s : State), i.mnemonic = .adc → ∃ src, i.arg.source = some src ∧
    exec i s = .next
      { s.afterReads (src.addrs s) with
        a := (adc8 s.a (src.byteAt s) s.flags.c).value
        flags :=
          Flags.withZN
            { s.flags with
              c := (adc8 s.a (src.byteAt s) s.flags.c).carry
              v := (adc8 s.a (src.byteAt s) s.flags.c).overflow }
            (adc8 s.a (src.byteAt s) s.flags.c).value
        cycles := s.cycles + cost i s }) ∧
  (∀ (i : Instr) (s : State), i.mnemonic = .sbc → ∃ src, i.arg.source = some src ∧
    exec i s = .next
      { s.afterReads (src.addrs s) with
        a := (sbc8 s.a (src.byteAt s) s.flags.c).value
        flags :=
          Flags.withZN
            { s.flags with
              c := (sbc8 s.a (src.byteAt s) s.flags.c).carry
              v := (sbc8 s.a (src.byteAt s) s.flags.c).overflow }
            (sbc8 s.a (src.byteAt s) s.flags.c).value
        cycles := s.cycles + cost i s })

/-- O36. R240, R241, R242: encodings and the whole next state. -/
def Obligations.LogicalInstructions : Prop :=
  HasRows .and
    [⟨0x21, .indx, 2, 6, false⟩, ⟨0x25, .zp, 2, 3, false⟩, ⟨0x29, .imm, 2, 2, false⟩,
     ⟨0x2D, .abs, 3, 4, false⟩, ⟨0x31, .indy, 2, 5, true⟩, ⟨0x35, .zpx, 2, 4, false⟩,
     ⟨0x39, .absy, 3, 4, true⟩, ⟨0x3D, .absx, 3, 4, true⟩] ∧
  HasRows .ora
    [⟨0x01, .indx, 2, 6, false⟩, ⟨0x05, .zp, 2, 3, false⟩, ⟨0x09, .imm, 2, 2, false⟩,
     ⟨0x0D, .abs, 3, 4, false⟩, ⟨0x11, .indy, 2, 5, true⟩, ⟨0x15, .zpx, 2, 4, false⟩,
     ⟨0x19, .absy, 3, 4, true⟩, ⟨0x1D, .absx, 3, 4, true⟩] ∧
  HasRows .eor
    [⟨0x41, .indx, 2, 6, false⟩, ⟨0x45, .zp, 2, 3, false⟩, ⟨0x49, .imm, 2, 2, false⟩,
     ⟨0x4D, .abs, 3, 4, false⟩, ⟨0x51, .indy, 2, 5, true⟩, ⟨0x55, .zpx, 2, 4, false⟩,
     ⟨0x59, .absy, 3, 4, true⟩, ⟨0x5D, .absx, 3, 4, true⟩] ∧
  (∀ (i : Instr) (s : State), i.mnemonic = .and → ∃ src, i.arg.source = some src ∧
    exec i s = .next
      { s.afterReads (src.addrs s) with
        a := s.a &&& src.byteAt s
        flags := s.flags.withZN (s.a &&& src.byteAt s)
        cycles := s.cycles + cost i s }) ∧
  (∀ (i : Instr) (s : State), i.mnemonic = .ora → ∃ src, i.arg.source = some src ∧
    exec i s = .next
      { s.afterReads (src.addrs s) with
        a := s.a ||| src.byteAt s
        flags := s.flags.withZN (s.a ||| src.byteAt s)
        cycles := s.cycles + cost i s }) ∧
  (∀ (i : Instr) (s : State), i.mnemonic = .eor → ∃ src, i.arg.source = some src ∧
    exec i s = .next
      { s.afterReads (src.addrs s) with
        a := s.a ^^^ src.byteAt s
        flags := s.flags.withZN (s.a ^^^ src.byteAt s)
        cycles := s.cycles + cost i s })

/-- O37. R260 to R264: encodings and the whole next state. -/
def Obligations.ShiftInstructions : Prop :=
  HasRows .asl
    [⟨0x06, .zp, 2, 5, false⟩, ⟨0x0A, .acc, 1, 2, false⟩, ⟨0x0E, .abs, 3, 6, false⟩,
     ⟨0x16, .zpx, 2, 6, false⟩, ⟨0x1E, .absx, 3, 7, false⟩] ∧
  HasRows .lsr
    [⟨0x46, .zp, 2, 5, false⟩, ⟨0x4A, .acc, 1, 2, false⟩, ⟨0x4E, .abs, 3, 6, false⟩,
     ⟨0x56, .zpx, 2, 6, false⟩, ⟨0x5E, .absx, 3, 7, false⟩] ∧
  HasRows .rol
    [⟨0x26, .zp, 2, 5, false⟩, ⟨0x2A, .acc, 1, 2, false⟩, ⟨0x2E, .abs, 3, 6, false⟩,
     ⟨0x36, .zpx, 2, 6, false⟩, ⟨0x3E, .absx, 3, 7, false⟩] ∧
  HasRows .ror
    [⟨0x66, .zp, 2, 5, false⟩, ⟨0x6A, .acc, 1, 2, false⟩, ⟨0x6E, .abs, 3, 6, false⟩,
     ⟨0x76, .zpx, 2, 6, false⟩, ⟨0x7E, .absx, 3, 7, false⟩] ∧
  ∀ (i : Instr) (s : State), [Mnemonic.asl, .lsr, .rol, .ror].contains i.mnemonic = true →
    (i.arg = .acc ∧
      exec i s = .next
        { s with
          a := (i.mnemonic.shifted s.a s.flags.c).1
          flags :=
            Flags.withZN { s.flags with c := (i.mnemonic.shifted s.a s.flags.c).2 }
              (i.mnemonic.shifted s.a s.flags.c).1
          cycles := s.cycles + i.baseCost }) ∨
    ∃ f, i.arg.addrForm = some f ∧
      exec i s = .next
        { (s.afterReads [(f.resolve s).ea]).memWrite (f.resolve s).ea
            (i.mnemonic.shifted (s.peek (f.resolve s).ea) s.flags.c).1 with
          flags :=
            Flags.withZN { s.flags with c := (i.mnemonic.shifted (s.peek (f.resolve s).ea) s.flags.c).2 }
              (i.mnemonic.shifted (s.peek (f.resolve s).ea) s.flags.c).1
          cycles := s.cycles + i.baseCost }

/-- O38. R280, R281: encodings and the whole next state (adding 255 is subtracting 1 modulo 256). -/
def Obligations.IncrementDecrementMemory : Prop :=
  HasRows .inc
    [⟨0xE6, .zp, 2, 5, false⟩, ⟨0xEE, .abs, 3, 6, false⟩, ⟨0xF6, .zpx, 2, 6, false⟩,
     ⟨0xFE, .absx, 3, 7, false⟩] ∧
  HasRows .dec
    [⟨0xC6, .zp, 2, 5, false⟩, ⟨0xCE, .abs, 3, 6, false⟩, ⟨0xD6, .zpx, 2, 6, false⟩,
     ⟨0xDE, .absx, 3, 7, false⟩] ∧
  (∀ (i : Instr) (s : State), i.mnemonic = .inc → ∃ f, i.arg.addrForm = some f ∧
    exec i s = .next
      { (s.afterReads [(f.resolve s).ea]).memWrite (f.resolve s).ea
          (BitVec.ofNat 8 ((s.peek (f.resolve s).ea).toNat + 1)) with
        flags := s.flags.withZN (BitVec.ofNat 8 ((s.peek (f.resolve s).ea).toNat + 1))
        cycles := s.cycles + i.baseCost }) ∧
  (∀ (i : Instr) (s : State), i.mnemonic = .dec → ∃ f, i.arg.addrForm = some f ∧
    exec i s = .next
      { (s.afterReads [(f.resolve s).ea]).memWrite (f.resolve s).ea
          (BitVec.ofNat 8 ((s.peek (f.resolve s).ea).toNat + 255)) with
        flags := s.flags.withZN (BitVec.ofNat 8 ((s.peek (f.resolve s).ea).toNat + 255))
        cycles := s.cycles + i.baseCost })

/-- O39. R282 to R285: encodings and the whole next state. -/
def Obligations.IncrementDecrementRegisters : Prop :=
  HasRows .inx
    [⟨0xE8, .imp, 1, 2, false⟩] ∧
  HasRows .iny
    [⟨0xC8, .imp, 1, 2, false⟩] ∧
  HasRows .dex
    [⟨0xCA, .imp, 1, 2, false⟩] ∧
  HasRows .dey
    [⟨0x88, .imp, 1, 2, false⟩] ∧
  (∀ s : State, exec .inx s = .next
    { s with
      x := BitVec.ofNat 8 (s.x.toNat + 1)
      flags := s.flags.withZN (BitVec.ofNat 8 (s.x.toNat + 1))
      cycles := s.cycles + 2 }) ∧
  (∀ s : State, exec .iny s = .next
    { s with
      y := BitVec.ofNat 8 (s.y.toNat + 1)
      flags := s.flags.withZN (BitVec.ofNat 8 (s.y.toNat + 1))
      cycles := s.cycles + 2 }) ∧
  (∀ s : State, exec .dex s = .next
    { s with
      x := BitVec.ofNat 8 (s.x.toNat + 255)
      flags := s.flags.withZN (BitVec.ofNat 8 (s.x.toNat + 255))
      cycles := s.cycles + 2 }) ∧
  (∀ s : State, exec .dey s = .next
    { s with
      y := BitVec.ofNat 8 (s.y.toNat + 255)
      flags := s.flags.withZN (BitVec.ofNat 8 (s.y.toNat + 255))
      cycles := s.cycles + 2 })

/-- O40. R300 to R303: encodings and the whole next state. -/
def Obligations.CompareInstructions : Prop :=
  HasRows .cmp
    [⟨0xC1, .indx, 2, 6, false⟩, ⟨0xC5, .zp, 2, 3, false⟩, ⟨0xC9, .imm, 2, 2, false⟩,
     ⟨0xCD, .abs, 3, 4, false⟩, ⟨0xD1, .indy, 2, 5, true⟩, ⟨0xD5, .zpx, 2, 4, false⟩,
     ⟨0xD9, .absy, 3, 4, true⟩, ⟨0xDD, .absx, 3, 4, true⟩] ∧
  HasRows .cpx
    [⟨0xE0, .imm, 2, 2, false⟩, ⟨0xE4, .zp, 2, 3, false⟩, ⟨0xEC, .abs, 3, 4, false⟩] ∧
  HasRows .cpy
    [⟨0xC0, .imm, 2, 2, false⟩, ⟨0xC4, .zp, 2, 3, false⟩, ⟨0xCC, .abs, 3, 4, false⟩] ∧
  (∀ (i : Instr) (s : State), i.mnemonic = .cmp → ∃ src, i.arg.source = some src ∧
    exec i s = .next
      { s.afterReads (src.addrs s) with
        flags :=
          { s.flags with
            c := decide ((src.byteAt s).toNat ≤ s.a.toNat)
            z := decide (s.a = src.byteAt s)
            n := decide (128 ≤ (s.a.toNat + 256 - (src.byteAt s).toNat) % 256) }
        cycles := s.cycles + cost i s }) ∧
  (∀ (i : Instr) (s : State), i.mnemonic = .cpx → ∃ src, i.arg.source = some src ∧
    exec i s = .next
      { s.afterReads (src.addrs s) with
        flags :=
          { s.flags with
            c := decide ((src.byteAt s).toNat ≤ s.x.toNat)
            z := decide (s.x = src.byteAt s)
            n := decide (128 ≤ (s.x.toNat + 256 - (src.byteAt s).toNat) % 256) }
        cycles := s.cycles + cost i s }) ∧
  (∀ (i : Instr) (s : State), i.mnemonic = .cpy → ∃ src, i.arg.source = some src ∧
    exec i s = .next
      { s.afterReads (src.addrs s) with
        flags :=
          { s.flags with
            c := decide ((src.byteAt s).toNat ≤ s.y.toNat)
            z := decide (s.y = src.byteAt s)
            n := decide (128 ≤ (s.y.toNat + 256 - (src.byteAt s).toNat) % 256) }
        cycles := s.cycles + cost i s })

/-- O41. R304: encodings and the whole next state. -/
def Obligations.BitInstruction : Prop :=
  HasRows .bit
    [⟨0x24, .zp, 2, 3, false⟩, ⟨0x2C, .abs, 3, 4, false⟩] ∧
  (∀ (i : Instr) (s : State), i.mnemonic = .bit → ∃ src, i.arg.source = some src ∧
    exec i s = .next
      { s.afterReads (src.addrs s) with
        flags :=
          { s.flags with
            z := decide (s.a &&& src.byteAt s = 0x00)
            n := (src.byteAt s).getLsbD 7
            v := (src.byteAt s).getLsbD 6 }
        cycles := s.cycles + cost i s })

/-- O42. R320 to R328: encodings, conditions and the whole next state (PC is past the offset byte). -/
def Obligations.BranchInstructions : Prop :=
  HasRows .bpl
    [⟨0x10, .rel, 2, 2, false⟩] ∧
  HasRows .bmi
    [⟨0x30, .rel, 2, 2, false⟩] ∧
  HasRows .bvc
    [⟨0x50, .rel, 2, 2, false⟩] ∧
  HasRows .bvs
    [⟨0x70, .rel, 2, 2, false⟩] ∧
  HasRows .bcc
    [⟨0x90, .rel, 2, 2, false⟩] ∧
  HasRows .bcs
    [⟨0xB0, .rel, 2, 2, false⟩] ∧
  HasRows .bne
    [⟨0xD0, .rel, 2, 2, false⟩] ∧
  HasRows .beq
    [⟨0xF0, .rel, 2, 2, false⟩] ∧
  ∀ (s : State) (off : Byte),
    ∀ p ∈ [(Instr.bpl off, !s.flags.n), (.bmi off, s.flags.n), (.bvc off, !s.flags.v), (.bvs off, s.flags.v),
      (.bcc off, !s.flags.c), (.bcs off, s.flags.c), (.bne off, !s.flags.z), (.beq off, s.flags.z)],
      exec p.1 s = .next
        (if p.2 then
          { s with
            pc := BitVec.ofInt 16 (s.pc.toNat + off.toInt)
            cycles := s.cycles + 3 +
              (if s.pc.toNat / 256 = (BitVec.ofInt 16 (s.pc.toNat + off.toInt)).toNat / 256 then 0 else 1) }
        else { s with cycles := s.cycles + 2 })

/-- O43. R340 and R341. -/
def Obligations.StackPrimitives : Prop :=
  (∀ p : Byte, (stackAddr p).toNat = 0x0100 + p.toNat) ∧
  (∀ (s : State) (v : Byte), s.push v = { s.memWrite (stackAddr s.sp) v with sp := s.sp - 1 }) ∧
  ∀ s : State,
    s.pull.value = s.peek (stackAddr (s.sp + 1)) ∧ s.pull.state = { s with sp := s.sp + 1 }

/-- O44. R342 to R345: encodings and the whole next state. -/
def Obligations.StackInstructions : Prop :=
  HasRows .pha
    [⟨0x48, .imp, 1, 3, false⟩] ∧
  HasRows .pla
    [⟨0x68, .imp, 1, 4, false⟩] ∧
  HasRows .php
    [⟨0x08, .imp, 1, 3, false⟩] ∧
  HasRows .plp
    [⟨0x28, .imp, 1, 4, false⟩] ∧
  ∀ s : State,
    exec .pha s = .next { s.memWrite (stackAddr s.sp) s.a with sp := s.sp - 1, cycles := s.cycles + 3 } ∧
    exec .php s =
      .next { s.memWrite (stackAddr s.sp) s.flags.pack with sp := s.sp - 1, cycles := s.cycles + 3 } ∧
    exec .pla s = .next
      { s with
        a := s.peek (stackAddr (s.sp + 1))
        flags := s.flags.withZN (s.peek (stackAddr (s.sp + 1)))
        sp := s.sp + 1
        cycles := s.cycles + 4 } ∧
    exec .plp s = .next
      { s with
        flags := Flags.unpack (s.peek (stackAddr (s.sp + 1)))
        sp := s.sp + 1
        cycles := s.cycles + 4 }

/-- O45. R346: the stack laws, by induction on the bytes pushed. -/
def Obligations.StackRoundTrip : Prop :=
  ∀ (s : State) (vs : List Byte), s.wf = true →
    (vs.length ≤ 256 →
      (State.pullMany vs.length (s.pushAll vs)).1 = vs.reverse ∧
      (State.pullMany vs.length (s.pushAll vs)).2.sp = s.sp) ∧
    (vs.length = 256 → ∀ v : Byte, ((s.pushAll vs).push v).peek (stackAddr s.sp) = v)

/-- O46. R360 and R361: encodings and the whole next state. -/
def Obligations.CallAndReturn : Prop :=
  HasRows .jsr
    [⟨0x20, .abs, 3, 6, false⟩] ∧
  HasRows .rts
    [⟨0x60, .imp, 1, 6, false⟩] ∧
  (∀ (s : State) (p target : Word), s.pc = p + 3 →
    exec (.jsrAbs target) s = .next
      { (s.memWrite (stackAddr s.sp) (hi (p + 2))).memWrite (stackAddr (s.sp - 1)) (lo (p + 2)) with
        sp := s.sp - 2
        pc := target
        cycles := s.cycles + 6 }) ∧
  ∀ s : State, exec .rts s = .next
    { s with
      sp := s.sp + 2
      pc := word (s.peek (stackAddr (s.sp + 2))) (s.peek (stackAddr (s.sp + 1))) + 1
      cycles := s.cycles + 6 }

/-- O47. R362. -/
def Obligations.ReturnComesBackAfterCall : Prop :=
  ∀ (s t u : State) (p target : Word), s.wf = true → s.pc = p + 3 → exec (.jsrAbs target) s = .next t →
    u.sp = t.sp → u.peek (stackAddr s.sp) = t.peek (stackAddr s.sp) →
    u.peek (stackAddr (s.sp - 1)) = t.peek (stackAddr (s.sp - 1)) →
      t.pc = target ∧ ∃ v, exec .rts u = .next v ∧ v.pc = p + 3 ∧ v.sp = s.sp

/-- O48. R364: encoding and the whole next state. -/
def Obligations.BreakTrap : Prop :=
  HasRows .brk
    [⟨0x00, .brk, 2, 7, false⟩] ∧
  ∀ (s : State) (p : Word), s.pc = p + 1 →
    exec .brk s = .next
      { ((s.memWrite (stackAddr s.sp) (hi (p + 2))).memWrite (stackAddr (s.sp - 1)) (lo (p + 2))).memWrite
          (stackAddr (s.sp - 2)) s.flags.pack with
        sp := s.sp - 3
        flags := { s.flags with i := true }
        pc := word (s.peek 0xFFFF) (s.peek 0xFFFE)
        cycles := s.cycles + 7 }

/-- O49. R363, R365, R422: encoding, the whole next state, the frame of a BRK, and the return from it. -/
def Obligations.ReturnFromInterrupt : Prop :=
  HasRows .rti
    [⟨0x40, .imp, 1, 6, false⟩] ∧
  (∀ s : State, exec .rti s = .next
    { s with
      flags := Flags.unpack (s.peek (stackAddr (s.sp + 1)))
      sp := s.sp + 3
      pc := word (s.peek (stackAddr (s.sp + 3))) (s.peek (stackAddr (s.sp + 2)))
      cycles := s.cycles + 6 }) ∧
  ∀ (s t : State) (p : Word), s.wf = true → s.pc = p + 1 → exec .brk s = .next t →
    t.sp = s.sp - 3 ∧ t.peek (stackAddr s.sp) = hi (p + 2) ∧ t.peek (stackAddr (s.sp - 1)) = lo (p + 2) ∧
    t.peek (stackAddr (s.sp - 2)) = s.flags.pack ∧
    ∀ u : State, u.sp = t.sp →
      (∀ k ∈ [stackAddr s.sp, stackAddr (s.sp - 1), stackAddr (s.sp - 2)], u.peek k = t.peek k) →
        ∃ v, exec .rti u = .next v ∧ v.pc = p + 2 ∧ v.flags = s.flags ∧ v.sp = s.sp

/-- O50. R366, R367: encodings and the whole next state. -/
def Obligations.JumpInstructions : Prop :=
  HasRows .jmp
    [⟨0x4C, .abs, 3, 3, false⟩, ⟨0x6C, .ind, 3, 5, false⟩] ∧
  (∀ (s : State) (w : Word), exec (.jmpAbs w) s = .next { s with pc := w, cycles := s.cycles + 3 }) ∧
  ∀ (s : State) (ptr second : Word),
    second.toNat = ptr.toNat / 256 * 256 + (ptr.toNat % 256 + 1) % 256 →
    exec (.jmpInd ptr) s = .next
      { s.afterReads [ptr, second] with
        pc := word (s.peek second) (s.peek ptr)
        cycles := s.cycles + 5 }

/-- O51. R380 to R385: encodings and the whole next state. -/
def Obligations.TransferInstructions : Prop :=
  HasRows .tax
    [⟨0xAA, .imp, 1, 2, false⟩] ∧
  HasRows .txa
    [⟨0x8A, .imp, 1, 2, false⟩] ∧
  HasRows .tay
    [⟨0xA8, .imp, 1, 2, false⟩] ∧
  HasRows .tya
    [⟨0x98, .imp, 1, 2, false⟩] ∧
  HasRows .txs
    [⟨0x9A, .imp, 1, 2, false⟩] ∧
  HasRows .tsx
    [⟨0xBA, .imp, 1, 2, false⟩] ∧
  ∀ s : State,
    exec .tax s = .next { s with x := s.a, flags := s.flags.withZN s.a, cycles := s.cycles + 2 } ∧
    exec .txa s = .next { s with a := s.x, flags := s.flags.withZN s.x, cycles := s.cycles + 2 } ∧
    exec .tay s = .next { s with y := s.a, flags := s.flags.withZN s.a, cycles := s.cycles + 2 } ∧
    exec .tya s = .next { s with a := s.y, flags := s.flags.withZN s.y, cycles := s.cycles + 2 } ∧
    exec .tsx s = .next { s with x := s.sp, flags := s.flags.withZN s.sp, cycles := s.cycles + 2 } ∧
    exec .txs s = .next { s with sp := s.x, cycles := s.cycles + 2 }

/-- O52. R386 to R392: encodings and the whole next state. -/
def Obligations.FlagInstructions : Prop :=
  HasRows .sec
    [⟨0x38, .imp, 1, 2, false⟩] ∧
  HasRows .clc
    [⟨0x18, .imp, 1, 2, false⟩] ∧
  HasRows .sei
    [⟨0x78, .imp, 1, 2, false⟩] ∧
  HasRows .cli
    [⟨0x58, .imp, 1, 2, false⟩] ∧
  HasRows .sed
    [⟨0xF8, .imp, 1, 2, false⟩] ∧
  HasRows .cld
    [⟨0xD8, .imp, 1, 2, false⟩] ∧
  HasRows .clv
    [⟨0xB8, .imp, 1, 2, false⟩] ∧
  ∀ s : State,
    exec .sec s = .next { s with flags := { s.flags with c := true }, cycles := s.cycles + 2 } ∧
    exec .clc s = .next { s with flags := { s.flags with c := false }, cycles := s.cycles + 2 } ∧
    exec .sei s = .next { s with flags := { s.flags with i := true }, cycles := s.cycles + 2 } ∧
    exec .cli s = .next { s with flags := { s.flags with i := false }, cycles := s.cycles + 2 } ∧
    exec .sed s = .next { s with flags := { s.flags with d := true }, cycles := s.cycles + 2 } ∧
    exec .cld s = .next { s with flags := { s.flags with d := false }, cycles := s.cycles + 2 } ∧
    exec .clv s = .next { s with flags := { s.flags with v := false }, cycles := s.cycles + 2 }

/-- O53. R393, R394: encodings and the whole next state. -/
def Obligations.NopAndStop : Prop :=
  HasRows .nop
    [⟨0xEA, .imp, 1, 2, false⟩] ∧
  HasRows .stop
    [⟨0x02, .stop, 1, 0, false⟩] ∧
  (∀ s : State, exec .nop s = .next { s with cycles := s.cycles + 2 }) ∧
  (∀ s : State, exec .stop s = .next { s with halted := true }) ∧
  ∀ (cfg : Config) (s : State), cfg.valid = true → s.halted = false → s.peek s.pc = cfg.stopOpcode →
    cfg.supports (s.peek s.pc) = true →
      ∃ t, stepWith cfg s = .next t ∧
        t = { s with halted := true, pc := s.pc + 1, events := s.events ++ s.opcodeEvents } ∧
        stepWith cfg t = .next t

/-- O54. R51: who writes which flag. -/
def Obligations.FlagFrame : Prop :=
  ∀ (i : Instr) (s t : State), exec i s = .next t →
    (i.writesC = false → t.flags.c = s.flags.c) ∧ (i.writesZN = false → t.flags.z = s.flags.z) ∧
    (i.writesZN = false → t.flags.n = s.flags.n) ∧ (i.writesV = false → t.flags.v = s.flags.v) ∧
    (i.writesI = false → t.flags.i = s.flags.i) ∧ (i.writesD = false → t.flags.d = s.flags.d) ∧
    (i.mnemonic = .sec → t.flags.c = true) ∧ (i.mnemonic = .clc → t.flags.c = false) ∧
    (i.mnemonic = .clv → t.flags.v = false) ∧ (i.mnemonic = .sei ∨ i.mnemonic = .brk → t.flags.i = true) ∧
    (i.mnemonic = .cli → t.flags.i = false) ∧ (i.mnemonic = .sed → t.flags.d = true) ∧
    (i.mnemonic = .cld → t.flags.d = false) ∧ (i.mnemonic = .lsr → t.flags.n = false)

/-- O55. R41 to R44: who writes which register; and the state no instruction writes. -/
def Obligations.RegisterFrame : Prop :=
  ∀ (i : Instr) (s t : State), exec i s = .next t →
    (i.writesA = false → t.a = s.a) ∧ (i.writesX = false → t.x = s.x) ∧ (i.writesY = false → t.y = s.y) ∧
    (i.writesSp = false → t.sp = s.sp) ∧ (i.writesPc = false → t.pc = s.pc) ∧
    (i ≠ .stop → t.halted = s.halted) ∧ t.rom = s.rom ∧ t.header = s.header ∧ t.trace = s.trace

/-- O56. The memory frame of every instruction; `storedAddrs` lists the stored addresses. -/
def Obligations.MemoryFrame : Prop :=
  ∀ (i : Instr) (s t : State), exec i s = .next t →
    (∀ a : Word, (∀ b ∈ storedAddrs i s, ¬ sharesCell a b) → t.peek a = s.peek a) ∧
    (storedAddrs i s = [] → t.ram = s.ram)

/-- O57. R470 to R472: the matrix of base costs, the page penalty set and the branch extras. -/
def Obligations.CycleCosts : Prop :=
  ∀ (i : Instr) (s t : State), exec i s = .next t → t.cycles = s.cycles + cost i s

/-- O58. R95, R402, R403: `dataReads` lists the reads of each instruction in their order. -/
def Obligations.ReportsInReadOrder : Prop :=
  ∀ (i : Instr) (s t : State), exec i s = .next t →
    t.events = s.events ++ (dataReads i s).flatMap accessReport

/-- O59. R411: the order of the events of one step over both streams, and its one halting event at most. -/
def Obligations.EventsInStepOrder : Prop :=
  ∀ (cfg : Config) (s t : State), cfg.valid = true → s.halted = false → stepWith cfg s = .next t →
    ∃ l : List Event,
      t.events = s.events ++ accessReport s.pc ++ [.trace s.traceRecord] ++ l ∧
      if cfg.supports (s.peek s.pc) = false then
        l = [.report (.unknownOpcode (s.peek s.pc) s.pc)] ∧ t.halted = true
      else if s.peek s.pc = cfg.stopOpcode then l = [] ∧ t.halted = true
      else
        t.halted = false ∧
        ∃ (i : Instr) (rest : List Byte),
          decode cfg [s.peek s.pc, s.peek (s.pc + 1), s.peek (s.pc + 2)] = .ok i rest ∧
          l = (s.operandAddrs i ++ dataReads i (s.afterFetch i)).flatMap accessReport
end

