-- ==== Sys2Proof/Laws/Decode.lean ====
section
/-! SUPPORT. What the opcode map gives for each documented opcode, said once, and what the decoder makes of an
opcode of a valid configuration. -/

namespace Sys2Proof

theorem documentedForm_00 : documentedForm 0x00 = some (.padded .brk) := rfl
theorem documentedForm_01 : documentedForm 0x01 = some (.byte .oraIndX) := rfl
theorem documentedForm_05 : documentedForm 0x05 = some (.byte .oraZp) := rfl
theorem documentedForm_06 : documentedForm 0x06 = some (.byte .aslZp) := rfl
theorem documentedForm_08 : documentedForm 0x08 = some (.bare .php) := rfl
theorem documentedForm_09 : documentedForm 0x09 = some (.byte .oraImm) := rfl
theorem documentedForm_0A : documentedForm 0x0A = some (.bare .aslAcc) := rfl
theorem documentedForm_0D : documentedForm 0x0D = some (.word .oraAbs) := rfl
theorem documentedForm_0E : documentedForm 0x0E = some (.word .aslAbs) := rfl
theorem documentedForm_10 : documentedForm 0x10 = some (.byte .bpl) := rfl
theorem documentedForm_11 : documentedForm 0x11 = some (.byte .oraIndY) := rfl
theorem documentedForm_15 : documentedForm 0x15 = some (.byte .oraZpX) := rfl
theorem documentedForm_16 : documentedForm 0x16 = some (.byte .aslZpX) := rfl
theorem documentedForm_18 : documentedForm 0x18 = some (.bare .clc) := rfl
theorem documentedForm_19 : documentedForm 0x19 = some (.word .oraAbsY) := rfl
theorem documentedForm_1D : documentedForm 0x1D = some (.word .oraAbsX) := rfl
theorem documentedForm_1E : documentedForm 0x1E = some (.word .aslAbsX) := rfl
theorem documentedForm_20 : documentedForm 0x20 = some (.word .jsrAbs) := rfl
theorem documentedForm_21 : documentedForm 0x21 = some (.byte .andIndX) := rfl
theorem documentedForm_24 : documentedForm 0x24 = some (.byte .bitZp) := rfl
theorem documentedForm_25 : documentedForm 0x25 = some (.byte .andZp) := rfl
theorem documentedForm_26 : documentedForm 0x26 = some (.byte .rolZp) := rfl
theorem documentedForm_28 : documentedForm 0x28 = some (.bare .plp) := rfl
theorem documentedForm_29 : documentedForm 0x29 = some (.byte .andImm) := rfl
theorem documentedForm_2A : documentedForm 0x2A = some (.bare .rolAcc) := rfl
theorem documentedForm_2C : documentedForm 0x2C = some (.word .bitAbs) := rfl
theorem documentedForm_2D : documentedForm 0x2D = some (.word .andAbs) := rfl
theorem documentedForm_2E : documentedForm 0x2E = some (.word .rolAbs) := rfl
theorem documentedForm_30 : documentedForm 0x30 = some (.byte .bmi) := rfl
theorem documentedForm_31 : documentedForm 0x31 = some (.byte .andIndY) := rfl
theorem documentedForm_35 : documentedForm 0x35 = some (.byte .andZpX) := rfl
theorem documentedForm_36 : documentedForm 0x36 = some (.byte .rolZpX) := rfl
theorem documentedForm_38 : documentedForm 0x38 = some (.bare .sec) := rfl
theorem documentedForm_39 : documentedForm 0x39 = some (.word .andAbsY) := rfl
theorem documentedForm_3D : documentedForm 0x3D = some (.word .andAbsX) := rfl
theorem documentedForm_3E : documentedForm 0x3E = some (.word .rolAbsX) := rfl
theorem documentedForm_40 : documentedForm 0x40 = some (.bare .rti) := rfl
theorem documentedForm_41 : documentedForm 0x41 = some (.byte .eorIndX) := rfl
theorem documentedForm_45 : documentedForm 0x45 = some (.byte .eorZp) := rfl
theorem documentedForm_46 : documentedForm 0x46 = some (.byte .lsrZp) := rfl
theorem documentedForm_48 : documentedForm 0x48 = some (.bare .pha) := rfl
theorem documentedForm_49 : documentedForm 0x49 = some (.byte .eorImm) := rfl
theorem documentedForm_4A : documentedForm 0x4A = some (.bare .lsrAcc) := rfl
theorem documentedForm_4C : documentedForm 0x4C = some (.word .jmpAbs) := rfl
theorem documentedForm_4D : documentedForm 0x4D = some (.word .eorAbs) := rfl
theorem documentedForm_4E : documentedForm 0x4E = some (.word .lsrAbs) := rfl
theorem documentedForm_50 : documentedForm 0x50 = some (.byte .bvc) := rfl
theorem documentedForm_51 : documentedForm 0x51 = some (.byte .eorIndY) := rfl
theorem documentedForm_55 : documentedForm 0x55 = some (.byte .eorZpX) := rfl
theorem documentedForm_56 : documentedForm 0x56 = some (.byte .lsrZpX) := rfl
theorem documentedForm_58 : documentedForm 0x58 = some (.bare .cli) := rfl
theorem documentedForm_59 : documentedForm 0x59 = some (.word .eorAbsY) := rfl
theorem documentedForm_5D : documentedForm 0x5D = some (.word .eorAbsX) := rfl
theorem documentedForm_5E : documentedForm 0x5E = some (.word .lsrAbsX) := rfl
theorem documentedForm_60 : documentedForm 0x60 = some (.bare .rts) := rfl
theorem documentedForm_61 : documentedForm 0x61 = some (.byte .adcIndX) := rfl
theorem documentedForm_65 : documentedForm 0x65 = some (.byte .adcZp) := rfl
theorem documentedForm_66 : documentedForm 0x66 = some (.byte .rorZp) := rfl
theorem documentedForm_68 : documentedForm 0x68 = some (.bare .pla) := rfl
theorem documentedForm_69 : documentedForm 0x69 = some (.byte .adcImm) := rfl
theorem documentedForm_6A : documentedForm 0x6A = some (.bare .rorAcc) := rfl
theorem documentedForm_6C : documentedForm 0x6C = some (.word .jmpInd) := rfl
theorem documentedForm_6D : documentedForm 0x6D = some (.word .adcAbs) := rfl
theorem documentedForm_6E : documentedForm 0x6E = some (.word .rorAbs) := rfl
theorem documentedForm_70 : documentedForm 0x70 = some (.byte .bvs) := rfl
theorem documentedForm_71 : documentedForm 0x71 = some (.byte .adcIndY) := rfl
theorem documentedForm_75 : documentedForm 0x75 = some (.byte .adcZpX) := rfl
theorem documentedForm_76 : documentedForm 0x76 = some (.byte .rorZpX) := rfl
theorem documentedForm_78 : documentedForm 0x78 = some (.bare .sei) := rfl
theorem documentedForm_79 : documentedForm 0x79 = some (.word .adcAbsY) := rfl
theorem documentedForm_7D : documentedForm 0x7D = some (.word .adcAbsX) := rfl
theorem documentedForm_7E : documentedForm 0x7E = some (.word .rorAbsX) := rfl
theorem documentedForm_81 : documentedForm 0x81 = some (.byte .staIndX) := rfl
theorem documentedForm_84 : documentedForm 0x84 = some (.byte .styZp) := rfl
theorem documentedForm_85 : documentedForm 0x85 = some (.byte .staZp) := rfl
theorem documentedForm_86 : documentedForm 0x86 = some (.byte .stxZp) := rfl
theorem documentedForm_88 : documentedForm 0x88 = some (.bare .dey) := rfl
theorem documentedForm_8A : documentedForm 0x8A = some (.bare .txa) := rfl
theorem documentedForm_8C : documentedForm 0x8C = some (.word .styAbs) := rfl
theorem documentedForm_8D : documentedForm 0x8D = some (.word .staAbs) := rfl
theorem documentedForm_8E : documentedForm 0x8E = some (.word .stxAbs) := rfl
theorem documentedForm_90 : documentedForm 0x90 = some (.byte .bcc) := rfl
theorem documentedForm_91 : documentedForm 0x91 = some (.byte .staIndY) := rfl
theorem documentedForm_94 : documentedForm 0x94 = some (.byte .styZpX) := rfl
theorem documentedForm_95 : documentedForm 0x95 = some (.byte .staZpX) := rfl
theorem documentedForm_96 : documentedForm 0x96 = some (.byte .stxZpY) := rfl
theorem documentedForm_98 : documentedForm 0x98 = some (.bare .tya) := rfl
theorem documentedForm_99 : documentedForm 0x99 = some (.word .staAbsY) := rfl
theorem documentedForm_9A : documentedForm 0x9A = some (.bare .txs) := rfl
theorem documentedForm_9D : documentedForm 0x9D = some (.word .staAbsX) := rfl
theorem documentedForm_A0 : documentedForm 0xA0 = some (.byte .ldyImm) := rfl
theorem documentedForm_A1 : documentedForm 0xA1 = some (.byte .ldaIndX) := rfl
theorem documentedForm_A2 : documentedForm 0xA2 = some (.byte .ldxImm) := rfl
theorem documentedForm_A4 : documentedForm 0xA4 = some (.byte .ldyZp) := rfl
theorem documentedForm_A5 : documentedForm 0xA5 = some (.byte .ldaZp) := rfl
theorem documentedForm_A6 : documentedForm 0xA6 = some (.byte .ldxZp) := rfl
theorem documentedForm_A8 : documentedForm 0xA8 = some (.bare .tay) := rfl
theorem documentedForm_A9 : documentedForm 0xA9 = some (.byte .ldaImm) := rfl
theorem documentedForm_AA : documentedForm 0xAA = some (.bare .tax) := rfl
theorem documentedForm_AC : documentedForm 0xAC = some (.word .ldyAbs) := rfl
theorem documentedForm_AD : documentedForm 0xAD = some (.word .ldaAbs) := rfl
theorem documentedForm_AE : documentedForm 0xAE = some (.word .ldxAbs) := rfl
theorem documentedForm_B0 : documentedForm 0xB0 = some (.byte .bcs) := rfl
theorem documentedForm_B1 : documentedForm 0xB1 = some (.byte .ldaIndY) := rfl
theorem documentedForm_B4 : documentedForm 0xB4 = some (.byte .ldyZpX) := rfl
theorem documentedForm_B5 : documentedForm 0xB5 = some (.byte .ldaZpX) := rfl
theorem documentedForm_B6 : documentedForm 0xB6 = some (.byte .ldxZpY) := rfl
theorem documentedForm_B8 : documentedForm 0xB8 = some (.bare .clv) := rfl
theorem documentedForm_B9 : documentedForm 0xB9 = some (.word .ldaAbsY) := rfl
theorem documentedForm_BA : documentedForm 0xBA = some (.bare .tsx) := rfl
theorem documentedForm_BC : documentedForm 0xBC = some (.word .ldyAbsX) := rfl
theorem documentedForm_BD : documentedForm 0xBD = some (.word .ldaAbsX) := rfl
theorem documentedForm_BE : documentedForm 0xBE = some (.word .ldxAbsY) := rfl
theorem documentedForm_C0 : documentedForm 0xC0 = some (.byte .cpyImm) := rfl
theorem documentedForm_C1 : documentedForm 0xC1 = some (.byte .cmpIndX) := rfl
theorem documentedForm_C4 : documentedForm 0xC4 = some (.byte .cpyZp) := rfl
theorem documentedForm_C5 : documentedForm 0xC5 = some (.byte .cmpZp) := rfl
theorem documentedForm_C6 : documentedForm 0xC6 = some (.byte .decZp) := rfl
theorem documentedForm_C8 : documentedForm 0xC8 = some (.bare .iny) := rfl
theorem documentedForm_C9 : documentedForm 0xC9 = some (.byte .cmpImm) := rfl
theorem documentedForm_CA : documentedForm 0xCA = some (.bare .dex) := rfl
theorem documentedForm_CC : documentedForm 0xCC = some (.word .cpyAbs) := rfl
theorem documentedForm_CD : documentedForm 0xCD = some (.word .cmpAbs) := rfl
theorem documentedForm_CE : documentedForm 0xCE = some (.word .decAbs) := rfl
theorem documentedForm_D0 : documentedForm 0xD0 = some (.byte .bne) := rfl
theorem documentedForm_D1 : documentedForm 0xD1 = some (.byte .cmpIndY) := rfl
theorem documentedForm_D5 : documentedForm 0xD5 = some (.byte .cmpZpX) := rfl
theorem documentedForm_D6 : documentedForm 0xD6 = some (.byte .decZpX) := rfl
theorem documentedForm_D8 : documentedForm 0xD8 = some (.bare .cld) := rfl
theorem documentedForm_D9 : documentedForm 0xD9 = some (.word .cmpAbsY) := rfl
theorem documentedForm_DD : documentedForm 0xDD = some (.word .cmpAbsX) := rfl
theorem documentedForm_DE : documentedForm 0xDE = some (.word .decAbsX) := rfl
theorem documentedForm_E0 : documentedForm 0xE0 = some (.byte .cpxImm) := rfl
theorem documentedForm_E1 : documentedForm 0xE1 = some (.byte .sbcIndX) := rfl
theorem documentedForm_E4 : documentedForm 0xE4 = some (.byte .cpxZp) := rfl
theorem documentedForm_E5 : documentedForm 0xE5 = some (.byte .sbcZp) := rfl
theorem documentedForm_E6 : documentedForm 0xE6 = some (.byte .incZp) := rfl
theorem documentedForm_E8 : documentedForm 0xE8 = some (.bare .inx) := rfl
theorem documentedForm_E9 : documentedForm 0xE9 = some (.byte .sbcImm) := rfl
theorem documentedForm_EA : documentedForm 0xEA = some (.bare .nop) := rfl
theorem documentedForm_EC : documentedForm 0xEC = some (.word .cpxAbs) := rfl
theorem documentedForm_ED : documentedForm 0xED = some (.word .sbcAbs) := rfl
theorem documentedForm_EE : documentedForm 0xEE = some (.word .incAbs) := rfl
theorem documentedForm_F0 : documentedForm 0xF0 = some (.byte .beq) := rfl
theorem documentedForm_F1 : documentedForm 0xF1 = some (.byte .sbcIndY) := rfl
theorem documentedForm_F5 : documentedForm 0xF5 = some (.byte .sbcZpX) := rfl
theorem documentedForm_F6 : documentedForm 0xF6 = some (.byte .incZpX) := rfl
theorem documentedForm_F8 : documentedForm 0xF8 = some (.bare .sed) := rfl
theorem documentedForm_F9 : documentedForm 0xF9 = some (.word .sbcAbsY) := rfl
theorem documentedForm_FD : documentedForm 0xFD = some (.word .sbcAbsX) := rfl
theorem documentedForm_FE : documentedForm 0xFE = some (.word .incAbsX) := rfl

@[simp] theorem Config.default_stopOpcode : Config.default.stopOpcode = 0x02 := rfl

@[simp] theorem Config.default_leftOut : Config.default.leftOut = [] := rfl

/-- The entry of the opcode map that an instruction comes from. -/
def Instr.form : Instr → Form
  | .ldaIndX _ => .byte .ldaIndX
  | .ldaZp _ => .byte .ldaZp
  | .ldaImm _ => .byte .ldaImm
  | .ldaAbs _ => .word .ldaAbs
  | .ldaIndY _ => .byte .ldaIndY
  | .ldaZpX _ => .byte .ldaZpX
  | .ldaAbsY _ => .word .ldaAbsY
  | .ldaAbsX _ => .word .ldaAbsX
  | .ldxImm _ => .byte .ldxImm
  | .ldxZp _ => .byte .ldxZp
  | .ldxAbs _ => .word .ldxAbs
  | .ldxZpY _ => .byte .ldxZpY
  | .ldxAbsY _ => .word .ldxAbsY
  | .ldyImm _ => .byte .ldyImm
  | .ldyZp _ => .byte .ldyZp
  | .ldyAbs _ => .word .ldyAbs
  | .ldyZpX _ => .byte .ldyZpX
  | .ldyAbsX _ => .word .ldyAbsX
  | .staIndX _ => .byte .staIndX
  | .staZp _ => .byte .staZp
  | .staAbs _ => .word .staAbs
  | .staIndY _ => .byte .staIndY
  | .staZpX _ => .byte .staZpX
  | .staAbsY _ => .word .staAbsY
  | .staAbsX _ => .word .staAbsX
  | .stxZp _ => .byte .stxZp
  | .stxAbs _ => .word .stxAbs
  | .stxZpY _ => .byte .stxZpY
  | .styZp _ => .byte .styZp
  | .styAbs _ => .word .styAbs
  | .styZpX _ => .byte .styZpX
  | .adcIndX _ => .byte .adcIndX
  | .adcZp _ => .byte .adcZp
  | .adcImm _ => .byte .adcImm
  | .adcAbs _ => .word .adcAbs
  | .adcIndY _ => .byte .adcIndY
  | .adcZpX _ => .byte .adcZpX
  | .adcAbsY _ => .word .adcAbsY
  | .adcAbsX _ => .word .adcAbsX
  | .sbcIndX _ => .byte .sbcIndX
  | .sbcZp _ => .byte .sbcZp
  | .sbcImm _ => .byte .sbcImm
  | .sbcAbs _ => .word .sbcAbs
  | .sbcIndY _ => .byte .sbcIndY
  | .sbcZpX _ => .byte .sbcZpX
  | .sbcAbsY _ => .word .sbcAbsY
  | .sbcAbsX _ => .word .sbcAbsX
  | .andIndX _ => .byte .andIndX
  | .andZp _ => .byte .andZp
  | .andImm _ => .byte .andImm
  | .andAbs _ => .word .andAbs
  | .andIndY _ => .byte .andIndY
  | .andZpX _ => .byte .andZpX
  | .andAbsY _ => .word .andAbsY
  | .andAbsX _ => .word .andAbsX
  | .oraIndX _ => .byte .oraIndX
  | .oraZp _ => .byte .oraZp
  | .oraImm _ => .byte .oraImm
  | .oraAbs _ => .word .oraAbs
  | .oraIndY _ => .byte .oraIndY
  | .oraZpX _ => .byte .oraZpX
  | .oraAbsY _ => .word .oraAbsY
  | .oraAbsX _ => .word .oraAbsX
  | .eorIndX _ => .byte .eorIndX
  | .eorZp _ => .byte .eorZp
  | .eorImm _ => .byte .eorImm
  | .eorAbs _ => .word .eorAbs
  | .eorIndY _ => .byte .eorIndY
  | .eorZpX _ => .byte .eorZpX
  | .eorAbsY _ => .word .eorAbsY
  | .eorAbsX _ => .word .eorAbsX
  | .aslZp _ => .byte .aslZp
  | .aslAcc => .bare .aslAcc
  | .aslAbs _ => .word .aslAbs
  | .aslZpX _ => .byte .aslZpX
  | .aslAbsX _ => .word .aslAbsX
  | .lsrZp _ => .byte .lsrZp
  | .lsrAcc => .bare .lsrAcc
  | .lsrAbs _ => .word .lsrAbs
  | .lsrZpX _ => .byte .lsrZpX
  | .lsrAbsX _ => .word .lsrAbsX
  | .rolZp _ => .byte .rolZp
  | .rolAcc => .bare .rolAcc
  | .rolAbs _ => .word .rolAbs
  | .rolZpX _ => .byte .rolZpX
  | .rolAbsX _ => .word .rolAbsX
  | .rorZp _ => .byte .rorZp
  | .rorAcc => .bare .rorAcc
  | .rorAbs _ => .word .rorAbs
  | .rorZpX _ => .byte .rorZpX
  | .rorAbsX _ => .word .rorAbsX
  | .incZp _ => .byte .incZp
  | .incAbs _ => .word .incAbs
  | .incZpX _ => .byte .incZpX
  | .incAbsX _ => .word .incAbsX
  | .decZp _ => .byte .decZp
  | .decAbs _ => .word .decAbs
  | .decZpX _ => .byte .decZpX
  | .decAbsX _ => .word .decAbsX
  | .inx => .bare .inx
  | .iny => .bare .iny
  | .dex => .bare .dex
  | .dey => .bare .dey
  | .cmpIndX _ => .byte .cmpIndX
  | .cmpZp _ => .byte .cmpZp
  | .cmpImm _ => .byte .cmpImm
  | .cmpAbs _ => .word .cmpAbs
  | .cmpIndY _ => .byte .cmpIndY
  | .cmpZpX _ => .byte .cmpZpX
  | .cmpAbsY _ => .word .cmpAbsY
  | .cmpAbsX _ => .word .cmpAbsX
  | .cpxImm _ => .byte .cpxImm
  | .cpxZp _ => .byte .cpxZp
  | .cpxAbs _ => .word .cpxAbs
  | .cpyImm _ => .byte .cpyImm
  | .cpyZp _ => .byte .cpyZp
  | .cpyAbs _ => .word .cpyAbs
  | .bitZp _ => .byte .bitZp
  | .bitAbs _ => .word .bitAbs
  | .bpl _ => .byte .bpl
  | .bmi _ => .byte .bmi
  | .bvc _ => .byte .bvc
  | .bvs _ => .byte .bvs
  | .bcc _ => .byte .bcc
  | .bcs _ => .byte .bcs
  | .bne _ => .byte .bne
  | .beq _ => .byte .beq
  | .pha => .bare .pha
  | .pla => .bare .pla
  | .php => .bare .php
  | .plp => .bare .plp
  | .jsrAbs _ => .word .jsrAbs
  | .rts => .bare .rts
  | .brk => .padded .brk
  | .rti => .bare .rti
  | .jmpAbs _ => .word .jmpAbs
  | .jmpInd _ => .word .jmpInd
  | .tax => .bare .tax
  | .txa => .bare .txa
  | .tay => .bare .tay
  | .tya => .bare .tya
  | .txs => .bare .txs
  | .tsx => .bare .tsx
  | .sec => .bare .sec
  | .clc => .bare .clc
  | .sei => .bare .sei
  | .cli => .bare .cli
  | .sed => .bare .sed
  | .cld => .bare .cld
  | .clv => .bare .clv
  | .nop => .bare .nop
  | .stop => .bare .stop

/-- The map's entry at an instruction's opcode is the one it comes from; STOP is not in the map (R150, R151). -/
theorem documentedForm_opcode (cfg : Config) (i : Instr) (h : i ≠ .stop) :
    documentedForm (i.opcode cfg) = some i.form := by
  cases i with
  | ldaIndX _ => exact documentedForm_A1
  | ldaZp _ => exact documentedForm_A5
  | ldaImm _ => exact documentedForm_A9
  | ldaAbs _ => exact documentedForm_AD
  | ldaIndY _ => exact documentedForm_B1
  | ldaZpX _ => exact documentedForm_B5
  | ldaAbsY _ => exact documentedForm_B9
  | ldaAbsX _ => exact documentedForm_BD
  | ldxImm _ => exact documentedForm_A2
  | ldxZp _ => exact documentedForm_A6
  | ldxAbs _ => exact documentedForm_AE
  | ldxZpY _ => exact documentedForm_B6
  | ldxAbsY _ => exact documentedForm_BE
  | ldyImm _ => exact documentedForm_A0
  | ldyZp _ => exact documentedForm_A4
  | ldyAbs _ => exact documentedForm_AC
  | ldyZpX _ => exact documentedForm_B4
  | ldyAbsX _ => exact documentedForm_BC
  | staIndX _ => exact documentedForm_81
  | staZp _ => exact documentedForm_85
  | staAbs _ => exact documentedForm_8D
  | staIndY _ => exact documentedForm_91
  | staZpX _ => exact documentedForm_95
  | staAbsY _ => exact documentedForm_99
  | staAbsX _ => exact documentedForm_9D
  | stxZp _ => exact documentedForm_86
  | stxAbs _ => exact documentedForm_8E
  | stxZpY _ => exact documentedForm_96
  | styZp _ => exact documentedForm_84
  | styAbs _ => exact documentedForm_8C
  | styZpX _ => exact documentedForm_94
  | adcIndX _ => exact documentedForm_61
  | adcZp _ => exact documentedForm_65
  | adcImm _ => exact documentedForm_69
  | adcAbs _ => exact documentedForm_6D
  | adcIndY _ => exact documentedForm_71
  | adcZpX _ => exact documentedForm_75
  | adcAbsY _ => exact documentedForm_79
  | adcAbsX _ => exact documentedForm_7D
  | sbcIndX _ => exact documentedForm_E1
  | sbcZp _ => exact documentedForm_E5
  | sbcImm _ => exact documentedForm_E9
  | sbcAbs _ => exact documentedForm_ED
  | sbcIndY _ => exact documentedForm_F1
  | sbcZpX _ => exact documentedForm_F5
  | sbcAbsY _ => exact documentedForm_F9
  | sbcAbsX _ => exact documentedForm_FD
  | andIndX _ => exact documentedForm_21
  | andZp _ => exact documentedForm_25
  | andImm _ => exact documentedForm_29
  | andAbs _ => exact documentedForm_2D
  | andIndY _ => exact documentedForm_31
  | andZpX _ => exact documentedForm_35
  | andAbsY _ => exact documentedForm_39
  | andAbsX _ => exact documentedForm_3D
  | oraIndX _ => exact documentedForm_01
  | oraZp _ => exact documentedForm_05
  | oraImm _ => exact documentedForm_09
  | oraAbs _ => exact documentedForm_0D
  | oraIndY _ => exact documentedForm_11
  | oraZpX _ => exact documentedForm_15
  | oraAbsY _ => exact documentedForm_19
  | oraAbsX _ => exact documentedForm_1D
  | eorIndX _ => exact documentedForm_41
  | eorZp _ => exact documentedForm_45
  | eorImm _ => exact documentedForm_49
  | eorAbs _ => exact documentedForm_4D
  | eorIndY _ => exact documentedForm_51
  | eorZpX _ => exact documentedForm_55
  | eorAbsY _ => exact documentedForm_59
  | eorAbsX _ => exact documentedForm_5D
  | aslZp _ => exact documentedForm_06
  | aslAcc => exact documentedForm_0A
  | aslAbs _ => exact documentedForm_0E
  | aslZpX _ => exact documentedForm_16
  | aslAbsX _ => exact documentedForm_1E
  | lsrZp _ => exact documentedForm_46
  | lsrAcc => exact documentedForm_4A
  | lsrAbs _ => exact documentedForm_4E
  | lsrZpX _ => exact documentedForm_56
  | lsrAbsX _ => exact documentedForm_5E
  | rolZp _ => exact documentedForm_26
  | rolAcc => exact documentedForm_2A
  | rolAbs _ => exact documentedForm_2E
  | rolZpX _ => exact documentedForm_36
  | rolAbsX _ => exact documentedForm_3E
  | rorZp _ => exact documentedForm_66
  | rorAcc => exact documentedForm_6A
  | rorAbs _ => exact documentedForm_6E
  | rorZpX _ => exact documentedForm_76
  | rorAbsX _ => exact documentedForm_7E
  | incZp _ => exact documentedForm_E6
  | incAbs _ => exact documentedForm_EE
  | incZpX _ => exact documentedForm_F6
  | incAbsX _ => exact documentedForm_FE
  | decZp _ => exact documentedForm_C6
  | decAbs _ => exact documentedForm_CE
  | decZpX _ => exact documentedForm_D6
  | decAbsX _ => exact documentedForm_DE
  | inx => exact documentedForm_E8
  | iny => exact documentedForm_C8
  | dex => exact documentedForm_CA
  | dey => exact documentedForm_88
  | cmpIndX _ => exact documentedForm_C1
  | cmpZp _ => exact documentedForm_C5
  | cmpImm _ => exact documentedForm_C9
  | cmpAbs _ => exact documentedForm_CD
  | cmpIndY _ => exact documentedForm_D1
  | cmpZpX _ => exact documentedForm_D5
  | cmpAbsY _ => exact documentedForm_D9
  | cmpAbsX _ => exact documentedForm_DD
  | cpxImm _ => exact documentedForm_E0
  | cpxZp _ => exact documentedForm_E4
  | cpxAbs _ => exact documentedForm_EC
  | cpyImm _ => exact documentedForm_C0
  | cpyZp _ => exact documentedForm_C4
  | cpyAbs _ => exact documentedForm_CC
  | bitZp _ => exact documentedForm_24
  | bitAbs _ => exact documentedForm_2C
  | bpl _ => exact documentedForm_10
  | bmi _ => exact documentedForm_30
  | bvc _ => exact documentedForm_50
  | bvs _ => exact documentedForm_70
  | bcc _ => exact documentedForm_90
  | bcs _ => exact documentedForm_B0
  | bne _ => exact documentedForm_D0
  | beq _ => exact documentedForm_F0
  | pha => exact documentedForm_48
  | pla => exact documentedForm_68
  | php => exact documentedForm_08
  | plp => exact documentedForm_28
  | jsrAbs _ => exact documentedForm_20
  | rts => exact documentedForm_60
  | brk => exact documentedForm_00
  | rti => exact documentedForm_40
  | jmpAbs _ => exact documentedForm_4C
  | jmpInd _ => exact documentedForm_6C
  | tax => exact documentedForm_AA
  | txa => exact documentedForm_8A
  | tay => exact documentedForm_A8
  | tya => exact documentedForm_98
  | txs => exact documentedForm_9A
  | tsx => exact documentedForm_BA
  | sec => exact documentedForm_38
  | clc => exact documentedForm_18
  | sei => exact documentedForm_78
  | cli => exact documentedForm_58
  | sed => exact documentedForm_F8
  | cld => exact documentedForm_D8
  | clv => exact documentedForm_B8
  | nop => exact documentedForm_EA
  | stop => exact absurd rfl h

/-- The stop opcode of a valid configuration is no documented opcode (R151). -/
theorem ne_stopOpcode {cfg : Config} (h : cfg.valid = true) {op : Byte} (hd : documented op = true) :
    op ≠ cfg.stopOpcode := by
  rintro rfl
  simp [Config.valid, hd] at h

/-- A supported documented opcode decodes to its entry of the map (R59). -/
theorem decodeOpcode_documented {cfg : Config} (h : cfg.valid = true) {op : Byte} {form : Form}
    (hs : cfg.supports op = true) (hf : documentedForm op = some form) : cfg.decodeOpcode op = some form := by
  have hd : documented op = true := by simp [documented, hf]
  simp only [Config.supports, Bool.and_eq_true, Bool.not_eq_true'] at hs
  rw [Config.decodeOpcode, hs.2, if_neg (by simp), if_neg (ne_stopOpcode h hd), hf]

/-- The supported stop opcode decodes to STOP (R151). -/
theorem decodeOpcode_stop {cfg : Config} (hs : cfg.supports cfg.stopOpcode = true) :
    cfg.decodeOpcode cfg.stopOpcode = some (.bare .stop) := by
  simp only [Config.supports, Bool.and_eq_true, Bool.not_eq_true'] at hs
  rw [Config.decodeOpcode, hs.2, if_neg (by simp), if_pos rfl]

/-- A well-formed instruction's opcode decodes to its entry. -/
theorem decodeOpcode_opcode {cfg : Config} (h : cfg.valid = true) {i : Instr} (hw : i.wellFormed cfg = true) :
    cfg.decodeOpcode (i.opcode cfg) = some i.form := by
  by_cases hi : i = .stop
  · subst hi; exact decodeOpcode_stop hw
  · exact decodeOpcode_documented h hw (documentedForm_opcode cfg i hi)

/-- An opcode is unknown exactly when it is not supported (R59, R153). -/
theorem decodeOpcode_eq_none (cfg : Config) (op : Byte) :
    cfg.decodeOpcode op = none ↔ cfg.supports op = false := by
  rw [Config.decodeOpcode, Config.supports]
  cases hl : cfg.leftOut.contains op with
  | true => simp
  | false =>
    by_cases ho : op = cfg.stopOpcode
    · simp [ho]
    · simp [ho, documented]

end Sys2Proof
end

