-- ==== Sys2Proof/Laws/Memory.lean ====
section
/-! SUPPORT. The laws of the sparse memories: a read after a write, and that every memory operation keeps the
canonical form. -/

namespace Sys2Proof.Machine

@[simp] theorem Memory.read_nil (k : Nat) : Memory.read [] k = 0x00 := rfl

theorem Memory.read_cons (j : Nat) (b : Byte) (m : Memory) (k : Nat) :
    Memory.read ((j, b) :: m) k = if j = k then b else Memory.read m k := rfl

/-- Below the first index of a canonical memory nothing is listed. -/
theorem Memory.read_below {bound low k : Nat} {m : Memory} (h : Memory.wfFrom bound low m = true)
    (hk : k < low) : Memory.read m k = 0x00 := by
  induction m generalizing low with
  | nil => rfl
  | cons e m ih =>
    obtain ⟨j, b⟩ := e
    simp only [Memory.wfFrom, Bool.and_eq_true, decide_eq_true_eq] at h
    rw [Memory.read_cons, if_neg (by omega)]
    exact ih h.2 (by omega)

/-- Past the last index nothing is listed. -/
theorem Memory.read_above {bound low k : Nat} {m : Memory} (h : Memory.wfFrom bound low m = true)
    (hk : bound ≤ k) : Memory.read m k = 0x00 := by
  induction m generalizing low with
  | nil => rfl
  | cons e m ih =>
    obtain ⟨j, b⟩ := e
    simp only [Memory.wfFrom, Bool.and_eq_true, decide_eq_true_eq] at h
    rw [Memory.read_cons, if_neg (by omega)]
    exact ih h.2

theorem Memory.wfFrom_weaken {bound low low' : Nat} {m : Memory}
    (h : Memory.wfFrom bound low m = true) (hl : low' ≤ low) : Memory.wfFrom bound low' m = true := by
  cases m with
  | nil => rfl
  | cons e m =>
    obtain ⟨j, b⟩ := e
    simp only [Memory.wfFrom, Bool.and_eq_true, decide_eq_true_eq] at h ⊢
    exact ⟨⟨⟨by omega, h.1.1.2⟩, h.1.2⟩, h.2⟩

theorem Memory.write_wfFrom {bound low k : Nat} {m : Memory} (v : Byte)
    (h : Memory.wfFrom bound low m = true) (hl : low ≤ k) (hk : k < bound) :
    Memory.wfFrom bound low (Memory.write m k v) = true := by
  induction m generalizing low with
  | nil =>
    rw [Memory.write]
    split
    · rfl
    · simp_all [Memory.wfFrom]
  | cons e m ih =>
    obtain ⟨j, b⟩ := e
    have h' := h
    simp only [Memory.wfFrom, Bool.and_eq_true, decide_eq_true_eq] at h'
    obtain ⟨⟨⟨h1, h2⟩, h3⟩, h4⟩ := h'
    rw [Memory.write]
    split
    · next hkj =>
      split
      · exact h
      · next hv => simp only [Memory.wfFrom]; simp_all
    · split
      · next hne heq =>
        subst heq
        split
        · exact Memory.wfFrom_weaken h4 (by omega)
        · next hv => simp only [Memory.wfFrom]; simp_all
      · next h5 h6 =>
        have := ih h4 (by omega)
        simp only [Memory.wfFrom]; simp_all

/-- A write keeps the canonical form. -/
theorem Memory.write_wf {size k : Nat} {m : Memory} (v : Byte) (h : Memory.wf size m = true)
    (hk : k < size) : Memory.wf size (Memory.write m k v) = true :=
  Memory.write_wfFrom v h (Nat.zero_le k) hk

/-- A read after a write: the byte written at its index, the old byte elsewhere; canonical memories only need
be asked for at the index of a removed entry. -/
theorem Memory.read_write_wfFrom {bound low k : Nat} {m : Memory} (v : Byte) (k' : Nat)
    (h : Memory.wfFrom bound low m = true) :
    Memory.read (Memory.write m k v) k' = if k = k' then v else Memory.read m k' := by
  induction m generalizing low with
  | nil => rw [Memory.write]; split <;> simp_all [Memory.read_cons]
  | cons e m ih =>
    obtain ⟨j, b⟩ := e
    simp only [Memory.wfFrom, Bool.and_eq_true, decide_eq_true_eq] at h
    obtain ⟨⟨⟨h1, h2⟩, h3⟩, h4⟩ := h
    rw [Memory.write]
    split
    · next hkj =>
      split
      · next hv =>
        subst hv
        split
        · next hkk =>
          subst hkk
          rw [Memory.read_cons, if_neg (by omega)]
          exact Memory.read_below h4 (by omega)
        · rfl
      · rw [Memory.read_cons]
    · split
      · next hne heq =>
        subst heq
        split
        · next hv =>
          subst hv
          rw [Memory.read_cons]
          split
          · next hkk => subst hkk; exact Memory.read_below h4 (by omega)
          · rfl
        · rw [Memory.read_cons, Memory.read_cons]; split <;> rfl
      · next h5 h6 =>
        rw [Memory.read_cons, Memory.read_cons, ih h4]
        by_cases hj : j = k'
        · simp [hj, show k ≠ k' by omega]
        · simp [hj]

theorem Memory.read_write {size k : Nat} {m : Memory} (v : Byte) (k' : Nat)
    (h : Memory.wf size m = true) :
    Memory.read (Memory.write m k v) k' = if k = k' then v else Memory.read m k' :=
  Memory.read_write_wfFrom v k' h

/-- A write leaves every other index alone, in any list. -/
theorem Memory.read_write_other (m : Memory) {k k' : Nat} (v : Byte) (h : k ≠ k') :
    Memory.read (Memory.write m k v) k' = Memory.read m k' := by
  induction m with
  | nil => rw [Memory.write]; split <;> simp [Memory.read_cons, h]
  | cons e m ih =>
    obtain ⟨j, b⟩ := e
    rw [Memory.write]
    split
    · split
      · rfl
      · rw [Memory.read_cons, if_neg h]
    · split
      · split
        · rw [Memory.read_cons, if_neg (by omega)]
        · rw [Memory.read_cons, Memory.read_cons, if_neg h, if_neg (by omega)]
      · rw [Memory.read_cons, Memory.read_cons, ih]

theorem Memory.ofBytes_wfFrom {bound : Nat} (bs : List Byte) :
    ∀ {low : Nat} (k : Nat), low ≤ k → k + bs.length ≤ bound →
      Memory.wfFrom bound low (Memory.ofBytes k bs) = true := by
  induction bs with
  | nil => intros; rfl
  | cons b bs ih =>
    intro low k hl hb
    simp only [List.length_cons] at hb
    rw [Memory.ofBytes]
    split
    · exact ih (k + 1) (by omega) (by omega)
    · next hv =>
      have := ih (low := k + 1) (k + 1) (le_refl _) (by omega)
      simp only [Memory.wfFrom]; simp_all; omega

/-- A memory made from a byte string is canonical. -/
theorem Memory.ofBytes_wf {size : Nat} (bs : List Byte) (h : bs.length ≤ size) :
    Memory.wf size (Memory.ofBytes 0 bs) = true :=
  Memory.ofBytes_wfFrom bs 0 (le_refl 0) (by omega)

theorem Memory.read_ofBytes_below (bs : List Byte) :
    ∀ (k j : Nat), j < k → Memory.read (Memory.ofBytes k bs) j = 0x00 := by
  induction bs with
  | nil => intros; rfl
  | cons b bs ih =>
    intro k j hj
    rw [Memory.ofBytes]
    split
    · exact ih (k + 1) j (by omega)
    · rw [Memory.read_cons, if_neg (by omega)]; exact ih (k + 1) j (by omega)

/-- A memory made from a byte string reads as the byte string, 0x00 past its end. -/
theorem Memory.read_ofBytes (bs : List Byte) :
    ∀ (k j : Nat), Memory.read (Memory.ofBytes k bs) (k + j) = bs.getD j 0x00 := by
  induction bs with
  | nil => intros; simp [Memory.ofBytes]
  | cons b bs ih =>
    intro k j
    rw [Memory.ofBytes]
    cases j with
    | zero =>
      split
      · next hb => rw [Memory.read_ofBytes_below bs (k + 1) (k + 0) (by omega)]; simp [hb]
      · simp [Memory.read_cons]
    | succ j =>
      have e : k + (j + 1) = k + 1 + j := by omega
      split
      · rw [e, ih (k + 1) j]; simp
      · rw [Memory.read_cons, if_neg (by omega), e, ih (k + 1) j]; simp

theorem Memory.ofBytes_zeros (n : Nat) : ∀ k : Nat, Memory.ofBytes k (List.replicate n 0x00) = [] := by
  induction n with
  | zero => intro k; rfl
  | succ n ih => intro k; rw [List.replicate_succ, Memory.ofBytes, if_pos rfl]; exact ih (k + 1)

end Sys2Proof.Machine
end

