-- ==== Sys2Proof/Laws/State.lean ====
section
/-! SUPPORT. One lemma per field per update of the state, true by rfl, and what a read sees after each update:
no later proof unfolds a record update. -/

namespace Sys2Proof.Machine

@[simp] theorem State.setA_a (s : State) (v : Byte) :
    (s.setA v).a = v := rfl
@[simp] theorem State.setA_x (s : State) (v : Byte) :
    (s.setA v).x = s.x := rfl
@[simp] theorem State.setA_y (s : State) (v : Byte) :
    (s.setA v).y = s.y := rfl
@[simp] theorem State.setA_sp (s : State) (v : Byte) :
    (s.setA v).sp = s.sp := rfl
@[simp] theorem State.setA_pc (s : State) (v : Byte) :
    (s.setA v).pc = s.pc := rfl
@[simp] theorem State.setA_flags (s : State) (v : Byte) :
    (s.setA v).flags = s.flags := rfl
@[simp] theorem State.setA_halted (s : State) (v : Byte) :
    (s.setA v).halted = s.halted := rfl
@[simp] theorem State.setA_cycles (s : State) (v : Byte) :
    (s.setA v).cycles = s.cycles := rfl
@[simp] theorem State.setA_ram (s : State) (v : Byte) :
    (s.setA v).ram = s.ram := rfl
@[simp] theorem State.setA_rom (s : State) (v : Byte) :
    (s.setA v).rom = s.rom := rfl
@[simp] theorem State.setA_header (s : State) (v : Byte) :
    (s.setA v).header = s.header := rfl
@[simp] theorem State.setA_events (s : State) (v : Byte) :
    (s.setA v).events = s.events := rfl
@[simp] theorem State.setA_trace (s : State) (v : Byte) :
    (s.setA v).trace = s.trace := rfl
@[simp] theorem State.setA_report (s : State) (v : Byte) :
    (s.setA v).report = s.report := rfl
@[simp] theorem State.setA_peek (s : State) (v : Byte) (k : Word) :
    (s.setA v).peek k = s.peek k := rfl

@[simp] theorem State.setX_a (s : State) (v : Byte) :
    (s.setX v).a = s.a := rfl
@[simp] theorem State.setX_x (s : State) (v : Byte) :
    (s.setX v).x = v := rfl
@[simp] theorem State.setX_y (s : State) (v : Byte) :
    (s.setX v).y = s.y := rfl
@[simp] theorem State.setX_sp (s : State) (v : Byte) :
    (s.setX v).sp = s.sp := rfl
@[simp] theorem State.setX_pc (s : State) (v : Byte) :
    (s.setX v).pc = s.pc := rfl
@[simp] theorem State.setX_flags (s : State) (v : Byte) :
    (s.setX v).flags = s.flags := rfl
@[simp] theorem State.setX_halted (s : State) (v : Byte) :
    (s.setX v).halted = s.halted := rfl
@[simp] theorem State.setX_cycles (s : State) (v : Byte) :
    (s.setX v).cycles = s.cycles := rfl
@[simp] theorem State.setX_ram (s : State) (v : Byte) :
    (s.setX v).ram = s.ram := rfl
@[simp] theorem State.setX_rom (s : State) (v : Byte) :
    (s.setX v).rom = s.rom := rfl
@[simp] theorem State.setX_header (s : State) (v : Byte) :
    (s.setX v).header = s.header := rfl
@[simp] theorem State.setX_events (s : State) (v : Byte) :
    (s.setX v).events = s.events := rfl
@[simp] theorem State.setX_trace (s : State) (v : Byte) :
    (s.setX v).trace = s.trace := rfl
@[simp] theorem State.setX_report (s : State) (v : Byte) :
    (s.setX v).report = s.report := rfl
@[simp] theorem State.setX_peek (s : State) (v : Byte) (k : Word) :
    (s.setX v).peek k = s.peek k := rfl

@[simp] theorem State.setY_a (s : State) (v : Byte) :
    (s.setY v).a = s.a := rfl
@[simp] theorem State.setY_x (s : State) (v : Byte) :
    (s.setY v).x = s.x := rfl
@[simp] theorem State.setY_y (s : State) (v : Byte) :
    (s.setY v).y = v := rfl
@[simp] theorem State.setY_sp (s : State) (v : Byte) :
    (s.setY v).sp = s.sp := rfl
@[simp] theorem State.setY_pc (s : State) (v : Byte) :
    (s.setY v).pc = s.pc := rfl
@[simp] theorem State.setY_flags (s : State) (v : Byte) :
    (s.setY v).flags = s.flags := rfl
@[simp] theorem State.setY_halted (s : State) (v : Byte) :
    (s.setY v).halted = s.halted := rfl
@[simp] theorem State.setY_cycles (s : State) (v : Byte) :
    (s.setY v).cycles = s.cycles := rfl
@[simp] theorem State.setY_ram (s : State) (v : Byte) :
    (s.setY v).ram = s.ram := rfl
@[simp] theorem State.setY_rom (s : State) (v : Byte) :
    (s.setY v).rom = s.rom := rfl
@[simp] theorem State.setY_header (s : State) (v : Byte) :
    (s.setY v).header = s.header := rfl
@[simp] theorem State.setY_events (s : State) (v : Byte) :
    (s.setY v).events = s.events := rfl
@[simp] theorem State.setY_trace (s : State) (v : Byte) :
    (s.setY v).trace = s.trace := rfl
@[simp] theorem State.setY_report (s : State) (v : Byte) :
    (s.setY v).report = s.report := rfl
@[simp] theorem State.setY_peek (s : State) (v : Byte) (k : Word) :
    (s.setY v).peek k = s.peek k := rfl

@[simp] theorem State.setSp_a (s : State) (v : Byte) :
    (s.setSp v).a = s.a := rfl
@[simp] theorem State.setSp_x (s : State) (v : Byte) :
    (s.setSp v).x = s.x := rfl
@[simp] theorem State.setSp_y (s : State) (v : Byte) :
    (s.setSp v).y = s.y := rfl
@[simp] theorem State.setSp_sp (s : State) (v : Byte) :
    (s.setSp v).sp = v := rfl
@[simp] theorem State.setSp_pc (s : State) (v : Byte) :
    (s.setSp v).pc = s.pc := rfl
@[simp] theorem State.setSp_flags (s : State) (v : Byte) :
    (s.setSp v).flags = s.flags := rfl
@[simp] theorem State.setSp_halted (s : State) (v : Byte) :
    (s.setSp v).halted = s.halted := rfl
@[simp] theorem State.setSp_cycles (s : State) (v : Byte) :
    (s.setSp v).cycles = s.cycles := rfl
@[simp] theorem State.setSp_ram (s : State) (v : Byte) :
    (s.setSp v).ram = s.ram := rfl
@[simp] theorem State.setSp_rom (s : State) (v : Byte) :
    (s.setSp v).rom = s.rom := rfl
@[simp] theorem State.setSp_header (s : State) (v : Byte) :
    (s.setSp v).header = s.header := rfl
@[simp] theorem State.setSp_events (s : State) (v : Byte) :
    (s.setSp v).events = s.events := rfl
@[simp] theorem State.setSp_trace (s : State) (v : Byte) :
    (s.setSp v).trace = s.trace := rfl
@[simp] theorem State.setSp_report (s : State) (v : Byte) :
    (s.setSp v).report = s.report := rfl
@[simp] theorem State.setSp_peek (s : State) (v : Byte) (k : Word) :
    (s.setSp v).peek k = s.peek k := rfl

@[simp] theorem State.setPc_a (s : State) (w : Word) :
    (s.setPc w).a = s.a := rfl
@[simp] theorem State.setPc_x (s : State) (w : Word) :
    (s.setPc w).x = s.x := rfl
@[simp] theorem State.setPc_y (s : State) (w : Word) :
    (s.setPc w).y = s.y := rfl
@[simp] theorem State.setPc_sp (s : State) (w : Word) :
    (s.setPc w).sp = s.sp := rfl
@[simp] theorem State.setPc_pc (s : State) (w : Word) :
    (s.setPc w).pc = w := rfl
@[simp] theorem State.setPc_flags (s : State) (w : Word) :
    (s.setPc w).flags = s.flags := rfl
@[simp] theorem State.setPc_halted (s : State) (w : Word) :
    (s.setPc w).halted = s.halted := rfl
@[simp] theorem State.setPc_cycles (s : State) (w : Word) :
    (s.setPc w).cycles = s.cycles := rfl
@[simp] theorem State.setPc_ram (s : State) (w : Word) :
    (s.setPc w).ram = s.ram := rfl
@[simp] theorem State.setPc_rom (s : State) (w : Word) :
    (s.setPc w).rom = s.rom := rfl
@[simp] theorem State.setPc_header (s : State) (w : Word) :
    (s.setPc w).header = s.header := rfl
@[simp] theorem State.setPc_events (s : State) (w : Word) :
    (s.setPc w).events = s.events := rfl
@[simp] theorem State.setPc_trace (s : State) (w : Word) :
    (s.setPc w).trace = s.trace := rfl
@[simp] theorem State.setPc_report (s : State) (w : Word) :
    (s.setPc w).report = s.report := rfl
@[simp] theorem State.setPc_peek (s : State) (w : Word) (k : Word) :
    (s.setPc w).peek k = s.peek k := rfl

@[simp] theorem State.setFlags_a (s : State) (f : Flags) :
    (s.setFlags f).a = s.a := rfl
@[simp] theorem State.setFlags_x (s : State) (f : Flags) :
    (s.setFlags f).x = s.x := rfl
@[simp] theorem State.setFlags_y (s : State) (f : Flags) :
    (s.setFlags f).y = s.y := rfl
@[simp] theorem State.setFlags_sp (s : State) (f : Flags) :
    (s.setFlags f).sp = s.sp := rfl
@[simp] theorem State.setFlags_pc (s : State) (f : Flags) :
    (s.setFlags f).pc = s.pc := rfl
@[simp] theorem State.setFlags_flags (s : State) (f : Flags) :
    (s.setFlags f).flags = f := rfl
@[simp] theorem State.setFlags_halted (s : State) (f : Flags) :
    (s.setFlags f).halted = s.halted := rfl
@[simp] theorem State.setFlags_cycles (s : State) (f : Flags) :
    (s.setFlags f).cycles = s.cycles := rfl
@[simp] theorem State.setFlags_ram (s : State) (f : Flags) :
    (s.setFlags f).ram = s.ram := rfl
@[simp] theorem State.setFlags_rom (s : State) (f : Flags) :
    (s.setFlags f).rom = s.rom := rfl
@[simp] theorem State.setFlags_header (s : State) (f : Flags) :
    (s.setFlags f).header = s.header := rfl
@[simp] theorem State.setFlags_events (s : State) (f : Flags) :
    (s.setFlags f).events = s.events := rfl
@[simp] theorem State.setFlags_trace (s : State) (f : Flags) :
    (s.setFlags f).trace = s.trace := rfl
@[simp] theorem State.setFlags_report (s : State) (f : Flags) :
    (s.setFlags f).report = s.report := rfl
@[simp] theorem State.setFlags_peek (s : State) (f : Flags) (k : Word) :
    (s.setFlags f).peek k = s.peek k := rfl

@[simp] theorem State.setZN_a (s : State) (v : Byte) :
    (s.setZN v).a = s.a := rfl
@[simp] theorem State.setZN_x (s : State) (v : Byte) :
    (s.setZN v).x = s.x := rfl
@[simp] theorem State.setZN_y (s : State) (v : Byte) :
    (s.setZN v).y = s.y := rfl
@[simp] theorem State.setZN_sp (s : State) (v : Byte) :
    (s.setZN v).sp = s.sp := rfl
@[simp] theorem State.setZN_pc (s : State) (v : Byte) :
    (s.setZN v).pc = s.pc := rfl
@[simp] theorem State.setZN_flags (s : State) (v : Byte) :
    (s.setZN v).flags = s.flags.withZN v := rfl
@[simp] theorem State.setZN_halted (s : State) (v : Byte) :
    (s.setZN v).halted = s.halted := rfl
@[simp] theorem State.setZN_cycles (s : State) (v : Byte) :
    (s.setZN v).cycles = s.cycles := rfl
@[simp] theorem State.setZN_ram (s : State) (v : Byte) :
    (s.setZN v).ram = s.ram := rfl
@[simp] theorem State.setZN_rom (s : State) (v : Byte) :
    (s.setZN v).rom = s.rom := rfl
@[simp] theorem State.setZN_header (s : State) (v : Byte) :
    (s.setZN v).header = s.header := rfl
@[simp] theorem State.setZN_events (s : State) (v : Byte) :
    (s.setZN v).events = s.events := rfl
@[simp] theorem State.setZN_trace (s : State) (v : Byte) :
    (s.setZN v).trace = s.trace := rfl
@[simp] theorem State.setZN_report (s : State) (v : Byte) :
    (s.setZN v).report = s.report := rfl
@[simp] theorem State.setZN_peek (s : State) (v : Byte) (k : Word) :
    (s.setZN v).peek k = s.peek k := rfl

@[simp] theorem State.setHalted_a (s : State) :
    s.setHalted.a = s.a := rfl
@[simp] theorem State.setHalted_x (s : State) :
    s.setHalted.x = s.x := rfl
@[simp] theorem State.setHalted_y (s : State) :
    s.setHalted.y = s.y := rfl
@[simp] theorem State.setHalted_sp (s : State) :
    s.setHalted.sp = s.sp := rfl
@[simp] theorem State.setHalted_pc (s : State) :
    s.setHalted.pc = s.pc := rfl
@[simp] theorem State.setHalted_flags (s : State) :
    s.setHalted.flags = s.flags := rfl
@[simp] theorem State.setHalted_halted (s : State) :
    s.setHalted.halted = true := rfl
@[simp] theorem State.setHalted_cycles (s : State) :
    s.setHalted.cycles = s.cycles := rfl
@[simp] theorem State.setHalted_ram (s : State) :
    s.setHalted.ram = s.ram := rfl
@[simp] theorem State.setHalted_rom (s : State) :
    s.setHalted.rom = s.rom := rfl
@[simp] theorem State.setHalted_header (s : State) :
    s.setHalted.header = s.header := rfl
@[simp] theorem State.setHalted_events (s : State) :
    s.setHalted.events = s.events := rfl
@[simp] theorem State.setHalted_trace (s : State) :
    s.setHalted.trace = s.trace := rfl
@[simp] theorem State.setHalted_report (s : State) :
    s.setHalted.report = s.report := rfl
@[simp] theorem State.setHalted_peek (s : State) (k : Word) :
    s.setHalted.peek k = s.peek k := rfl

@[simp] theorem State.addCycles_a (s : State) (n : Nat) :
    (s.addCycles n).a = s.a := rfl
@[simp] theorem State.addCycles_x (s : State) (n : Nat) :
    (s.addCycles n).x = s.x := rfl
@[simp] theorem State.addCycles_y (s : State) (n : Nat) :
    (s.addCycles n).y = s.y := rfl
@[simp] theorem State.addCycles_sp (s : State) (n : Nat) :
    (s.addCycles n).sp = s.sp := rfl
@[simp] theorem State.addCycles_pc (s : State) (n : Nat) :
    (s.addCycles n).pc = s.pc := rfl
@[simp] theorem State.addCycles_flags (s : State) (n : Nat) :
    (s.addCycles n).flags = s.flags := rfl
@[simp] theorem State.addCycles_halted (s : State) (n : Nat) :
    (s.addCycles n).halted = s.halted := rfl
@[simp] theorem State.addCycles_cycles (s : State) (n : Nat) :
    (s.addCycles n).cycles = s.cycles + n := rfl
@[simp] theorem State.addCycles_ram (s : State) (n : Nat) :
    (s.addCycles n).ram = s.ram := rfl
@[simp] theorem State.addCycles_rom (s : State) (n : Nat) :
    (s.addCycles n).rom = s.rom := rfl
@[simp] theorem State.addCycles_header (s : State) (n : Nat) :
    (s.addCycles n).header = s.header := rfl
@[simp] theorem State.addCycles_events (s : State) (n : Nat) :
    (s.addCycles n).events = s.events := rfl
@[simp] theorem State.addCycles_trace (s : State) (n : Nat) :
    (s.addCycles n).trace = s.trace := rfl
@[simp] theorem State.addCycles_report (s : State) (n : Nat) :
    (s.addCycles n).report = s.report := rfl
@[simp] theorem State.addCycles_peek (s : State) (n : Nat) (k : Word) :
    (s.addCycles n).peek k = s.peek k := rfl

@[simp] theorem State.emit_a (s : State) (e : Event) :
    (s.emit e).a = s.a := rfl
@[simp] theorem State.emit_x (s : State) (e : Event) :
    (s.emit e).x = s.x := rfl
@[simp] theorem State.emit_y (s : State) (e : Event) :
    (s.emit e).y = s.y := rfl
@[simp] theorem State.emit_sp (s : State) (e : Event) :
    (s.emit e).sp = s.sp := rfl
@[simp] theorem State.emit_pc (s : State) (e : Event) :
    (s.emit e).pc = s.pc := rfl
@[simp] theorem State.emit_flags (s : State) (e : Event) :
    (s.emit e).flags = s.flags := rfl
@[simp] theorem State.emit_halted (s : State) (e : Event) :
    (s.emit e).halted = s.halted := rfl
@[simp] theorem State.emit_cycles (s : State) (e : Event) :
    (s.emit e).cycles = s.cycles := rfl
@[simp] theorem State.emit_ram (s : State) (e : Event) :
    (s.emit e).ram = s.ram := rfl
@[simp] theorem State.emit_rom (s : State) (e : Event) :
    (s.emit e).rom = s.rom := rfl
@[simp] theorem State.emit_header (s : State) (e : Event) :
    (s.emit e).header = s.header := rfl
@[simp] theorem State.emit_events (s : State) (e : Event) :
    (s.emit e).events = s.events ++ [e] := rfl
@[simp] theorem State.emit_peek (s : State) (e : Event) (k : Word) :
    (s.emit e).peek k = s.peek k := rfl

@[simp] theorem State.emitReport_a (s : State) (r : Report) :
    (s.emitReport r).a = s.a := rfl
@[simp] theorem State.emitReport_x (s : State) (r : Report) :
    (s.emitReport r).x = s.x := rfl
@[simp] theorem State.emitReport_y (s : State) (r : Report) :
    (s.emitReport r).y = s.y := rfl
@[simp] theorem State.emitReport_sp (s : State) (r : Report) :
    (s.emitReport r).sp = s.sp := rfl
@[simp] theorem State.emitReport_pc (s : State) (r : Report) :
    (s.emitReport r).pc = s.pc := rfl
@[simp] theorem State.emitReport_flags (s : State) (r : Report) :
    (s.emitReport r).flags = s.flags := rfl
@[simp] theorem State.emitReport_halted (s : State) (r : Report) :
    (s.emitReport r).halted = s.halted := rfl
@[simp] theorem State.emitReport_cycles (s : State) (r : Report) :
    (s.emitReport r).cycles = s.cycles := rfl
@[simp] theorem State.emitReport_ram (s : State) (r : Report) :
    (s.emitReport r).ram = s.ram := rfl
@[simp] theorem State.emitReport_rom (s : State) (r : Report) :
    (s.emitReport r).rom = s.rom := rfl
@[simp] theorem State.emitReport_header (s : State) (r : Report) :
    (s.emitReport r).header = s.header := rfl
@[simp] theorem State.emitReport_events (s : State) (r : Report) :
    (s.emitReport r).events = s.events ++ [.report r] := rfl
@[simp] theorem State.emitReport_peek (s : State) (r : Report) (k : Word) :
    (s.emitReport r).peek k = s.peek k := rfl

@[simp] theorem State.emitTrace_a (s : State) (pc0 : Word) (op : Byte) :
    (s.emitTrace pc0 op).a = s.a := rfl
@[simp] theorem State.emitTrace_x (s : State) (pc0 : Word) (op : Byte) :
    (s.emitTrace pc0 op).x = s.x := rfl
@[simp] theorem State.emitTrace_y (s : State) (pc0 : Word) (op : Byte) :
    (s.emitTrace pc0 op).y = s.y := rfl
@[simp] theorem State.emitTrace_sp (s : State) (pc0 : Word) (op : Byte) :
    (s.emitTrace pc0 op).sp = s.sp := rfl
@[simp] theorem State.emitTrace_pc (s : State) (pc0 : Word) (op : Byte) :
    (s.emitTrace pc0 op).pc = s.pc := rfl
@[simp] theorem State.emitTrace_flags (s : State) (pc0 : Word) (op : Byte) :
    (s.emitTrace pc0 op).flags = s.flags := rfl
@[simp] theorem State.emitTrace_halted (s : State) (pc0 : Word) (op : Byte) :
    (s.emitTrace pc0 op).halted = s.halted := rfl
@[simp] theorem State.emitTrace_cycles (s : State) (pc0 : Word) (op : Byte) :
    (s.emitTrace pc0 op).cycles = s.cycles := rfl
@[simp] theorem State.emitTrace_ram (s : State) (pc0 : Word) (op : Byte) :
    (s.emitTrace pc0 op).ram = s.ram := rfl
@[simp] theorem State.emitTrace_rom (s : State) (pc0 : Word) (op : Byte) :
    (s.emitTrace pc0 op).rom = s.rom := rfl
@[simp] theorem State.emitTrace_header (s : State) (pc0 : Word) (op : Byte) :
    (s.emitTrace pc0 op).header = s.header := rfl
@[simp] theorem State.emitTrace_events (s : State) (pc0 : Word) (op : Byte) :
    (s.emitTrace pc0 op).events = s.events ++
      [.trace { pc0, op, a := s.a, x := s.x, y := s.y, sp := s.sp, p := s.flags.pack, cycles := s.cycles }] := rfl
@[simp] theorem State.emitTrace_peek (s : State) (pc0 : Word) (op : Byte) (k : Word) :
    (s.emitTrace pc0 op).peek k = s.peek k := rfl

@[simp] theorem State.memWrite_a (s : State) (a : Word) (v : Byte) :
    (s.memWrite a v).a = s.a := rfl
@[simp] theorem State.memWrite_x (s : State) (a : Word) (v : Byte) :
    (s.memWrite a v).x = s.x := rfl
@[simp] theorem State.memWrite_y (s : State) (a : Word) (v : Byte) :
    (s.memWrite a v).y = s.y := rfl
@[simp] theorem State.memWrite_sp (s : State) (a : Word) (v : Byte) :
    (s.memWrite a v).sp = s.sp := rfl
@[simp] theorem State.memWrite_pc (s : State) (a : Word) (v : Byte) :
    (s.memWrite a v).pc = s.pc := rfl
@[simp] theorem State.memWrite_flags (s : State) (a : Word) (v : Byte) :
    (s.memWrite a v).flags = s.flags := rfl
@[simp] theorem State.memWrite_halted (s : State) (a : Word) (v : Byte) :
    (s.memWrite a v).halted = s.halted := rfl
@[simp] theorem State.memWrite_cycles (s : State) (a : Word) (v : Byte) :
    (s.memWrite a v).cycles = s.cycles := rfl
@[simp] theorem State.memWrite_ram (s : State) (a : Word) (v : Byte) :
    (s.memWrite a v).ram = s.ram.write (ramIndex a) v := rfl
@[simp] theorem State.memWrite_rom (s : State) (a : Word) (v : Byte) :
    (s.memWrite a v).rom = s.rom := rfl
@[simp] theorem State.memWrite_header (s : State) (a : Word) (v : Byte) :
    (s.memWrite a v).header = s.header := rfl
@[simp] theorem State.memWrite_events (s : State) (a : Word) (v : Byte) :
    (s.memWrite a v).events = s.events := rfl
@[simp] theorem State.memWrite_trace (s : State) (a : Word) (v : Byte) :
    (s.memWrite a v).trace = s.trace := rfl
@[simp] theorem State.memWrite_report (s : State) (a : Word) (v : Byte) :
    (s.memWrite a v).report = s.report := rfl

@[simp] theorem State.afterReads_a (s : State) (l : List Word) :
    (s.afterReads l).a = s.a := rfl
@[simp] theorem State.afterReads_x (s : State) (l : List Word) :
    (s.afterReads l).x = s.x := rfl
@[simp] theorem State.afterReads_y (s : State) (l : List Word) :
    (s.afterReads l).y = s.y := rfl
@[simp] theorem State.afterReads_sp (s : State) (l : List Word) :
    (s.afterReads l).sp = s.sp := rfl
@[simp] theorem State.afterReads_pc (s : State) (l : List Word) :
    (s.afterReads l).pc = s.pc := rfl
@[simp] theorem State.afterReads_flags (s : State) (l : List Word) :
    (s.afterReads l).flags = s.flags := rfl
@[simp] theorem State.afterReads_halted (s : State) (l : List Word) :
    (s.afterReads l).halted = s.halted := rfl
@[simp] theorem State.afterReads_cycles (s : State) (l : List Word) :
    (s.afterReads l).cycles = s.cycles := rfl
@[simp] theorem State.afterReads_ram (s : State) (l : List Word) :
    (s.afterReads l).ram = s.ram := rfl
@[simp] theorem State.afterReads_rom (s : State) (l : List Word) :
    (s.afterReads l).rom = s.rom := rfl
@[simp] theorem State.afterReads_header (s : State) (l : List Word) :
    (s.afterReads l).header = s.header := rfl
@[simp] theorem State.afterReads_events (s : State) (l : List Word) :
    (s.afterReads l).events = s.events ++ l.flatMap accessReport := rfl
@[simp] theorem State.afterReads_peek (s : State) (l : List Word) (k : Word) :
    (s.afterReads l).peek k = s.peek k := rfl

/-! The two streams after more outputs (R401, R430). -/

/-- The `trace` stream depends on the outputs alone, and grows by the trace records among the new ones. -/
theorem State.trace_of_events {s t : State} {l : List Event} (h : t.events = s.events ++ l) :
    t.trace = s.trace ++ l.filterMap Event.traceRecord? := by
  simp [State.trace, h]

/-- The `report` stream depends on the outputs alone, and grows by the reports among the new ones. -/
theorem State.report_of_events {s t : State} {l : List Event} (h : t.events = s.events ++ l) :
    t.report = s.report ++ l.filterMap Event.report? := by
  simp [State.report, h]

/-- Reads emit no trace record. -/
theorem accessReport_traceRecords (l : List Word) :
    (l.flatMap accessReport).filterMap Event.traceRecord? = [] := by
  rw [List.filterMap_eq_nil_iff]
  intro e he
  obtain ⟨k, -, hk⟩ := List.mem_flatMap.1 he
  rw [accessReport] at hk
  split at hk
  · rw [List.mem_singleton.1 hk]; rfl
  · cases hk

@[simp] theorem State.afterReads_trace (s : State) (l : List Word) : (s.afterReads l).trace = s.trace := by
  rw [State.trace_of_events (State.afterReads_events s l), accessReport_traceRecords, List.append_nil]

@[simp] theorem State.emitReport_trace (s : State) (r : Report) : (s.emitReport r).trace = s.trace := by
  rw [State.trace_of_events (State.emitReport_events s r)]; exact List.append_nil _

@[simp] theorem State.emitReport_report (s : State) (r : Report) : (s.emitReport r).report = s.report ++ [r] :=
  State.report_of_events (State.emitReport_events s r)

end Sys2Proof.Machine
end

