-- ==== Sys2Proof/Laws/Ops.lean ====
section
/-! SUPPORT. What each shared operation of Machine/Ops.lean does, said once: the value it gives and every field
of the state it leaves. -/

namespace Sys2Proof.Machine

/-! The fixed places of the stack, the zero page and the vectors. -/

theorem toNat_word (h l : Byte) : (word h l).toNat = h.toNat * 256 + l.toNat := by
  have := l.isLt
  simp only [word, BitVec.toNat_append, Nat.shiftLeft_eq]
  rw [Nat.mul_comm, ← Nat.two_pow_add_eq_or_of_lt this]

@[simp] theorem toNat_zeroPage (z : Byte) : (zeroPage z).toNat = z.toNat := by
  simp [zeroPage, toNat_word]

@[simp] theorem toNat_stackAddr (p : Byte) : (stackAddr p).toNat = 256 + p.toNat := by
  simp [stackAddr, toNat_word]

@[simp] theorem unmapped_zeroPage (z : Byte) : unmapped (zeroPage z) = false := by
  have := z.isLt
  simp [unmapped, ramMirrorEnd, romBase]; omega

@[simp] theorem unmapped_stackAddr (p : Byte) : unmapped (stackAddr p) = false := by
  have := p.isLt
  simp [unmapped, ramMirrorEnd, romBase]; omega

@[simp] theorem ramIndex_zeroPage (z : Byte) : ramIndex (zeroPage z) = z.toNat := by
  have := z.isLt
  simp [ramIndex, ramSize]; omega

@[simp] theorem ramIndex_stackAddr (p : Byte) : ramIndex (stackAddr p) = 256 + p.toNat := by
  have := p.isLt
  simp [ramIndex, ramSize]; omega

theorem unmapped_iff (k : Word) : unmapped k = true ↔ 0x2000 ≤ k.toNat ∧ k.toNat < 0x8000 := by
  rw [unmapped, Bool.and_eq_true, decide_eq_true_eq, decide_eq_true_eq]
  exact Iff.rfl

theorem mapped_iff (k : Word) : unmapped k = false ↔ k.toNat < 0x2000 ∨ 0x8000 ≤ k.toNat := by
  rw [← Bool.not_eq_true, unmapped_iff]; omega

/-- A read below 0x2000 is of RAM (R84). -/
theorem State.peek_ram (s : State) {k : Word} (h : k.toNat < 0x2000) :
    s.peek k = s.ram.read (k.toNat % 2048) := if_pos h

/-- A read from 0x8000 on is of ROM (R84). -/
theorem State.peek_rom (s : State) {k : Word} (h : 0x8000 ≤ k.toNat) :
    s.peek k = s.rom.read (k.toNat - 0x8000) := by
  rw [State.peek, if_neg (by simp only [ramMirrorEnd]; omega)]
  exact if_pos h

/-- A read of the unmapped region is 0x00 (R85). -/
theorem State.peek_unmapped (s : State) {k : Word} (h : unmapped k = true) : s.peek k = 0x00 := by
  rw [unmapped_iff] at h
  rw [State.peek, if_neg (by simp only [ramMirrorEnd]; omega), if_neg (by simp only [romBase]; omega)]

theorem ramIndex_lt (a : Word) : ramIndex a < ramSize := Nat.mod_lt _ (by decide)

theorem hi_word (h l : Byte) : hi (word h l) = h := by
  simp only [hi, word]; exact BitVec.extractLsb'_append_eq_left

theorem lo_word (h l : Byte) : lo (word h l) = l := by
  simp only [lo, word]; exact BitVec.extractLsb'_append_eq_right

theorem word_hi_lo (w : Word) : word (hi w) (lo w) = w := by
  apply BitVec.eq_of_toNat_eq
  rw [toNat_word]
  have := w.isLt
  simp [hi, lo, Nat.shiftRight_eq_div_pow]; omega

/-! Reads (R84, R85). -/

@[simp] theorem State.memRead_value (s : State) (k : Word) : (s.memRead k).value = s.peek k := rfl

/-- A read leaves the state but for its report. -/
theorem State.memRead_state (s : State) (k : Word) : (s.memRead k).state = s.afterReads [k] := by
  cases h : unmapped k <;> simp [State.memRead, State.afterReads, accessReport, State.emitReport, State.emit, h]

theorem State.memRead_state_mapped (s : State) {k : Word} (h : unmapped k = false) :
    (s.memRead k).state = s := by
  simp [State.memRead, h]

@[simp] theorem State.afterReads_nil (s : State) : s.afterReads [] = s := by simp [State.afterReads]

theorem State.afterReads_cons_mapped (s : State) {k : Word} (l : List Word) (h : unmapped k = false) :
    s.afterReads (k :: l) = s.afterReads l := by
  simp [State.afterReads, accessReport, h]

theorem State.afterReads_afterReads (s : State) (l m : List Word) :
    (s.afterReads l).afterReads m = s.afterReads (l ++ m) := by
  simp [State.afterReads]

/-- A read of two bytes: both values and both reports, the low byte first. -/
theorem State.readWord_eq (s : State) (al ah : Word) :
    s.readWord al ah = { value := word (s.peek ah) (s.peek al), state := s.afterReads [al, ah] } := by
  simp [State.readWord, State.memRead_state, State.afterReads_afterReads]

/-- `fetch8()`: the byte at PC, its report, PC one further (R124). -/
theorem State.fetch8_eq (s : State) :
    s.fetch8 = { value := s.peek s.pc, state := (s.afterReads [s.pc]).setPc (s.pc + 1) } := by
  simp [State.fetch8, State.memRead_state]

/-! Writes and what reads see of them (R86, R87). -/

/-- A write leaves the reads of every address that shares no cell with it, in any state. -/
theorem State.peek_memWrite_other (s : State) {k j : Word} (v : Byte) (h : ¬ sharesCell j k) :
    (s.memWrite k v).peek j = s.peek j := by
  simp only [State.peek, State.memWrite_ram, State.memWrite_rom]
  split
  · next hj => exact Memory.read_write_other _ _ (fun he => h ⟨hj, he.symm⟩)
  · rfl

/-- A read after a write: the byte written where both name one RAM cell, the old byte elsewhere. -/
theorem State.peek_memWrite {s : State} (h : Memory.wf ramSize s.ram = true) (k : Word) (v : Byte) (j : Word) :
    (s.memWrite k v).peek j =
      if j.toNat < ramMirrorEnd ∧ ramIndex j = ramIndex k then v else s.peek j := by
  simp only [State.peek, State.memWrite_ram, State.memWrite_rom]
  rw [Memory.read_write v _ h]
  by_cases h1 : j.toNat < ramMirrorEnd
  · by_cases h2 : ramIndex k = ramIndex j
    · simp [h1, h2]
    · simp [h1, h2, Ne.symm h2]
  · simp [h1]

/-! The invariant. -/

theorem State.wf_iff (s : State) :
    s.wf = true ↔ Memory.wf ramSize s.ram = true ∧ Memory.wf romSize s.rom = true ∧ s.header.length = headerSize := by
  simp [State.wf, and_assoc]

theorem State.wf_of_eq {s t : State} (h : s.wf = true) (h1 : t.ram = s.ram) (h2 : t.rom = s.rom)
    (h3 : t.header = s.header) : t.wf = true := by
  rw [State.wf_iff] at h ⊢; rw [h1, h2, h3]; exact h

/-- A write keeps the invariant. -/
theorem State.wf_memWrite {s : State} (h : s.wf = true) (k : Word) (v : Byte) : (s.memWrite k v).wf = true := by
  rw [State.wf_iff] at h ⊢
  exact ⟨Memory.write_wf v h.1 (ramIndex_lt k), h.2⟩

/-! The stack (R340, R341). -/

@[simp] theorem State.push_a (s : State) (v : Byte) :
    (s.push v).a = s.a := rfl
@[simp] theorem State.push_x (s : State) (v : Byte) :
    (s.push v).x = s.x := rfl
@[simp] theorem State.push_y (s : State) (v : Byte) :
    (s.push v).y = s.y := rfl
@[simp] theorem State.push_sp (s : State) (v : Byte) :
    (s.push v).sp = s.sp - 1 := rfl
@[simp] theorem State.push_pc (s : State) (v : Byte) :
    (s.push v).pc = s.pc := rfl
@[simp] theorem State.push_flags (s : State) (v : Byte) :
    (s.push v).flags = s.flags := rfl
@[simp] theorem State.push_halted (s : State) (v : Byte) :
    (s.push v).halted = s.halted := rfl
@[simp] theorem State.push_cycles (s : State) (v : Byte) :
    (s.push v).cycles = s.cycles := rfl
@[simp] theorem State.push_ram (s : State) (v : Byte) :
    (s.push v).ram = s.ram.write (ramIndex (stackAddr s.sp)) v := rfl
@[simp] theorem State.push_rom (s : State) (v : Byte) :
    (s.push v).rom = s.rom := rfl
@[simp] theorem State.push_header (s : State) (v : Byte) :
    (s.push v).header = s.header := rfl
@[simp] theorem State.push_events (s : State) (v : Byte) :
    (s.push v).events = s.events := rfl
@[simp] theorem State.push_trace (s : State) (v : Byte) :
    (s.push v).trace = s.trace := rfl
@[simp] theorem State.push_report (s : State) (v : Byte) :
    (s.push v).report = s.report := rfl

/-- `pull()`: the byte above the pointer, and SP one further; no report. -/
theorem State.pull_eq (s : State) :
    s.pull = { value := s.peek (stackAddr (s.sp + 1)), state := s.setSp (s.sp + 1) } := by
  rw [State.pull, State.memRead, if_neg (by simp)]
  rfl

theorem State.wf_push {s : State} (h : s.wf = true) (v : Byte) : (s.push v).wf = true :=
  State.wf_of_eq (State.wf_memWrite h (stackAddr s.sp) v) rfl rfl rfl

/-- Two pulls: the low byte first, SP two further. -/
theorem State.pullWord_eq (s : State) :
    s.pullWord =
      { value := word (s.peek (stackAddr (s.sp + 1 + 1))) (s.peek (stackAddr (s.sp + 1)))
        state := s.setSp (s.sp + 1 + 1) } := by
  simp [State.pullWord, State.pull_eq]
  rfl

@[simp] theorem State.pushWord_a (s : State) (w : Word) :
    (s.pushWord w).a = s.a := rfl
@[simp] theorem State.pushWord_x (s : State) (w : Word) :
    (s.pushWord w).x = s.x := rfl
@[simp] theorem State.pushWord_y (s : State) (w : Word) :
    (s.pushWord w).y = s.y := rfl
@[simp] theorem State.pushWord_sp (s : State) (w : Word) :
    (s.pushWord w).sp = s.sp - 1 - 1 := rfl
@[simp] theorem State.pushWord_pc (s : State) (w : Word) :
    (s.pushWord w).pc = s.pc := rfl
@[simp] theorem State.pushWord_flags (s : State) (w : Word) :
    (s.pushWord w).flags = s.flags := rfl
@[simp] theorem State.pushWord_halted (s : State) (w : Word) :
    (s.pushWord w).halted = s.halted := rfl
@[simp] theorem State.pushWord_cycles (s : State) (w : Word) :
    (s.pushWord w).cycles = s.cycles := rfl
@[simp] theorem State.pushWord_ram (s : State) (w : Word) :
    (s.pushWord w).ram = (s.ram.write (ramIndex (stackAddr s.sp)) (hi w)).write (ramIndex (stackAddr (s.sp - 1))) (lo w) := rfl
@[simp] theorem State.pushWord_rom (s : State) (w : Word) :
    (s.pushWord w).rom = s.rom := rfl
@[simp] theorem State.pushWord_header (s : State) (w : Word) :
    (s.pushWord w).header = s.header := rfl
@[simp] theorem State.pushWord_events (s : State) (w : Word) :
    (s.pushWord w).events = s.events := rfl
@[simp] theorem State.pushWord_trace (s : State) (w : Word) :
    (s.pushWord w).trace = s.trace := rfl
@[simp] theorem State.pushWord_report (s : State) (w : Word) :
    (s.pushWord w).report = s.report := rfl

/-! The break trap (R364, R365). -/

@[simp] theorem unmapped_brkVector : unmapped brkVector = false := by decide

theorem unmapped_brkVector_succ : unmapped (brkVector + 1) = false := by decide

/-- The vectors are in ROM: no write changes what they read as (R86, R89). -/
theorem State.peek_of_rom {s t : State} (h : t.rom = s.rom) {k : Word} (hk : ramMirrorEnd ≤ k.toNat) :
    t.peek k = s.peek k := by
  simp [State.peek, Nat.not_lt.mpr hk, h]

/-- Trap entry: three pushes, I set, PC from the vector in ROM; nothing is reported. -/
theorem State.takeBreak_eq (s : State) :
    s.takeBreak =
      (((s.pushWord s.pc).push s.flags.pack).setFlags { s.flags with i := true }).setPc
        (word (s.peek (brkVector + 1)) (s.peek brkVector)) := by
  simp only [State.takeBreak, State.readWord_eq]
  rw [State.afterReads_cons_mapped _ _ unmapped_brkVector, State.afterReads_cons_mapped _ _ unmapped_brkVector_succ,
    State.afterReads_nil]
  rw [State.peek_of_rom (s := s) rfl (by decide), State.peek_of_rom (s := s) rfl (by decide)]
  rfl

/-- Trap return: flags, then PC, from the three bytes above the pointer. -/
theorem State.returnFromBreak_eq (s : State) :
    s.returnFromBreak =
      ((s.setFlags (Flags.unpack (s.peek (stackAddr (s.sp + 1))))).setSp (s.sp + 1 + 1 + 1)).setPc
        (word (s.peek (stackAddr (s.sp + 1 + 1 + 1))) (s.peek (stackAddr (s.sp + 1 + 1)))) := by
  simp [State.returnFromBreak, State.pull_eq, State.pullWord_eq]
  rfl

end Sys2Proof.Machine
end

