-- ==== Sys2Proof/Laws/Operands.lean ====
section
/-! SUPPORT. What the resolver and the three shapes of operand use do, said once. -/

namespace Sys2Proof.Machine

/-- A zero-page pointer is in RAM, so reading it reports nothing (R90). -/
theorem State.readPointer_eq (s : State) (z : Byte) :
    s.readPointer z =
      { value := word (s.peek (zeroPage (z + 1))) (s.peek (zeroPage z)), state := s } := by
  simp [State.readPointer, State.readWord_eq, State.afterReads, accessReport]

/-- The resolver changes no state: pointers lie in the zero page (R90, R125). -/
@[simp] theorem AddrForm.resolve_state (f : AddrForm) (s : State) : (f.resolve s).state = s := by
  cases f <;> simp [AddrForm.resolve, indexed, State.readPointer_eq]

@[simp] theorem Source.read_value (src : Source) (s : State) : (src.read s).value = src.byteAt s := by
  cases src <;> simp [Source.read, Source.byteAt]

/-! The modes that never cross a page (R125). -/

@[simp] theorem AddrForm.zp_crossed (z : Byte) (s : State) : ((AddrForm.zp z).resolve s).crossed = false := rfl

@[simp] theorem AddrForm.zpx_crossed (z : Byte) (s : State) : ((AddrForm.zpx z).resolve s).crossed = false := rfl

@[simp] theorem AddrForm.zpy_crossed (z : Byte) (s : State) : ((AddrForm.zpy z).resolve s).crossed = false := rfl

@[simp] theorem AddrForm.abs_crossed (w : Word) (s : State) : ((AddrForm.abs w).resolve s).crossed = false := rfl

@[simp] theorem AddrForm.indx_crossed (z : Byte) (s : State) : ((AddrForm.indx z).resolve s).crossed = false := rfl

/-- An operand read leaves the state but for the report of the data address. -/
@[simp] theorem Source.read_state (src : Source) (s : State) : (src.read s).state = s.afterReads (src.addrs s) := by
  cases src <;> simp [Source.read, Source.addrs, State.memRead_state]

@[simp] theorem Source.read_imm_crossed (b : Byte) (s : State) : (Source.read (.imm b) s).crossed = false := rfl

@[simp] theorem Source.read_mem_crossed (f : AddrForm) (s : State) :
    (Source.read (.mem f) s).crossed = (f.resolve s).crossed := rfl

/-- A reading instruction always completes. -/
theorem readThen_eq (src : Source) (n : Nat) (effect : State → Byte → State) (s : State) :
    readThen src n effect s =
      .next ((effect (s.afterReads (src.addrs s)) (src.byteAt s)).addCycles (n + (src.read s).crossed.toNat)) := by
  simp [readThen]

/-- A storing instruction always completes: one RAM byte and the cost. -/
theorem storeTo_eq (f : AddrForm) (n : Nat) (v : Byte) (s : State) :
    storeTo f n v s = .next ((s.memWrite (f.resolve s).ea v).addCycles n) := by
  simp [storeTo]

/-- A read-modify-write instruction always completes: one report at most, one RAM byte, the flags and the cost. -/
theorem modifyAt_eq (f : AddrForm) (n : Nat) (effect : Byte → Flags → Byte × Flags) (s : State) :
    modifyAt f n effect s =
      .next ((((s.afterReads [(f.resolve s).ea]).memWrite (f.resolve s).ea
        (effect (s.peek (f.resolve s).ea) s.flags).1).setFlags
          (effect (s.peek (f.resolve s).ea) s.flags).2).addCycles n) := by
  simp [modifyAt, State.memRead_state]

/-- A branch always completes (R320). -/
theorem branchIf_eq (cond : Bool) (off : Byte) (s : State) :
    branchIf cond off s = .next
      (if cond then
        (s.setPc (branchTarget s.pc off)).addCycles (3 + (pageDiffers s.pc (branchTarget s.pc off)).toNat)
      else s.addCycles 2) := rfl

/-- Crossing a page, in integers (R133, R137, R320). -/
theorem pageDiffers_iff (p q : Word) : pageDiffers p q = true ↔ p.toNat / 256 ≠ q.toNat / 256 := by
  have hp := p.isLt
  have hq := q.isLt
  have key : hi p = hi q ↔ p.toNat / 256 = q.toNat / 256 := by
    rw [BitVec.toNat_inj.symm]
    simp [hi, Nat.shiftRight_eq_div_pow]
    omega
  simp [pageDiffers, key]

end Sys2Proof.Machine
end

