-- ==== Sys2Proof/Laws/Exec.lean ====
section
/-! SUPPORT. The next state of each shared meaning, said once: every one completes in every state. -/

namespace Sys2Proof.Machine

/-- A state after a reading instruction: the report of the data address, the cost, and what `f` changes. -/
def State.readDone (s : State) (src : Source) (n : Nat) : State :=
  { s.afterReads (src.addrs s) with cycles := s.cycles + (n + (src.read s).crossed.toNat) }

@[simp] theorem loadA_eq (src : Source) (n : Nat) (s : State) :
    loadA src n s = .next
      { s.readDone src n with
        a := src.byteAt s
        flags := s.flags.withZN (src.byteAt s) } := by
  rw [loadA, readThen_eq]; rfl

@[simp] theorem loadX_eq (src : Source) (n : Nat) (s : State) :
    loadX src n s = .next
      { s.readDone src n with
        x := src.byteAt s
        flags := s.flags.withZN (src.byteAt s) } := by
  rw [loadX, readThen_eq]; rfl

@[simp] theorem loadY_eq (src : Source) (n : Nat) (s : State) :
    loadY src n s = .next
      { s.readDone src n with
        y := src.byteAt s
        flags := s.flags.withZN (src.byteAt s) } := by
  rw [loadY, readThen_eq]; rfl

@[simp] theorem addToA_eq (src : Source) (n : Nat) (s : State) :
    addToA src n s = .next
      { s.readDone src n with
        a := (adc8 s.a (src.byteAt s) s.flags.c).value
        flags := s.flags.withSum (adc8 s.a (src.byteAt s) s.flags.c) } := by
  rw [addToA, readThen_eq]; rfl

@[simp] theorem subFromA_eq (src : Source) (n : Nat) (s : State) :
    subFromA src n s = .next
      { s.readDone src n with
        a := (sbc8 s.a (src.byteAt s) s.flags.c).value
        flags := s.flags.withSum (sbc8 s.a (src.byteAt s) s.flags.c) } := by
  rw [subFromA, readThen_eq]; rfl

@[simp] theorem andA_eq (src : Source) (n : Nat) (s : State) :
    andA src n s = .next
      { s.readDone src n with
        a := s.a &&& src.byteAt s
        flags := s.flags.withZN (s.a &&& src.byteAt s) } := by
  rw [andA, readThen_eq]; rfl

@[simp] theorem orA_eq (src : Source) (n : Nat) (s : State) :
    orA src n s = .next
      { s.readDone src n with
        a := s.a ||| src.byteAt s
        flags := s.flags.withZN (s.a ||| src.byteAt s) } := by
  rw [orA, readThen_eq]; rfl

@[simp] theorem eorA_eq (src : Source) (n : Nat) (s : State) :
    eorA src n s = .next
      { s.readDone src n with
        a := s.a ^^^ src.byteAt s
        flags := s.flags.withZN (s.a ^^^ src.byteAt s) } := by
  rw [eorA, readThen_eq]; rfl

@[simp] theorem compareA_eq (src : Source) (n : Nat) (s : State) :
    compareA src n s = .next
      { s.readDone src n with
        flags := s.flags.compare s.a (src.byteAt s) } := by
  rw [compareA, readThen_eq]; rfl

@[simp] theorem compareX_eq (src : Source) (n : Nat) (s : State) :
    compareX src n s = .next
      { s.readDone src n with
        flags := s.flags.compare s.x (src.byteAt s) } := by
  rw [compareX, readThen_eq]; rfl

@[simp] theorem compareY_eq (src : Source) (n : Nat) (s : State) :
    compareY src n s = .next
      { s.readDone src n with
        flags := s.flags.compare s.y (src.byteAt s) } := by
  rw [compareY, readThen_eq]; rfl

@[simp] theorem bitTestA_eq (src : Source) (n : Nat) (s : State) :
    bitTestA src n s = .next
      { s.readDone src n with
        flags := s.flags.bitTest s.a (src.byteAt s) } := by
  rw [bitTestA, readThen_eq]; rfl

@[simp] theorem storeA_eq (f : AddrForm) (n : Nat) (s : State) :
    storeA f n s = .next { s.memWrite (f.resolve s).ea s.a with cycles := s.cycles + n } := by
  rw [storeA, storeTo_eq]; rfl

@[simp] theorem storeX_eq (f : AddrForm) (n : Nat) (s : State) :
    storeX f n s = .next { s.memWrite (f.resolve s).ea s.x with cycles := s.cycles + n } := by
  rw [storeX, storeTo_eq]; rfl

@[simp] theorem storeY_eq (f : AddrForm) (n : Nat) (s : State) :
    storeY f n s = .next { s.memWrite (f.resolve s).ea s.y with cycles := s.cycles + n } := by
  rw [storeY, storeTo_eq]; rfl

@[simp] theorem shiftA_eq (sh : Byte → Bool → Shifted) (n : Nat) (s : State) :
    shiftA sh n s = .next
      { s with
        a := (sh s.a s.flags.c).value
        flags := s.flags.withShift (sh s.a s.flags.c)
        cycles := s.cycles + n } := rfl

@[simp] theorem shiftMem_eq (sh : Byte → Bool → Shifted) (f : AddrForm) (n : Nat) (s : State) :
    shiftMem sh f n s = .next
      { (s.afterReads [(f.resolve s).ea]).memWrite (f.resolve s).ea
          (sh (s.peek (f.resolve s).ea) s.flags.c).value with
        flags := s.flags.withShift (sh (s.peek (f.resolve s).ea) s.flags.c)
        cycles := s.cycles + n } := by
  rw [shiftMem, modifyAt_eq]; rfl

@[simp] theorem stepMem_eq (d : Byte) (f : AddrForm) (n : Nat) (s : State) :
    stepMem d f n s = .next
      { (s.afterReads [(f.resolve s).ea]).memWrite (f.resolve s).ea (s.peek (f.resolve s).ea + d) with
        flags := s.flags.withZN (s.peek (f.resolve s).ea + d)
        cycles := s.cycles + n } := by
  rw [stepMem, modifyAt_eq]; rfl

@[simp] theorem execPla_eq (s : State) :
    execPla s = .next
      { s with
        a := s.peek (stackAddr (s.sp + 1))
        flags := s.flags.withZN (s.peek (stackAddr (s.sp + 1)))
        sp := s.sp + 1
        cycles := s.cycles + 4 } := by
  simp only [execPla, State.pull_eq]; rfl

@[simp] theorem execPlp_eq (s : State) :
    execPlp s = .next
      { s with
        flags := Flags.unpack (s.peek (stackAddr (s.sp + 1)))
        sp := s.sp + 1
        cycles := s.cycles + 4 } := by
  simp only [execPlp, State.pull_eq]; rfl

@[simp] theorem execRts_eq (s : State) :
    execRts s = .next
      { s with
        sp := s.sp + 1 + 1
        pc := word (s.peek (stackAddr (s.sp + 1 + 1))) (s.peek (stackAddr (s.sp + 1))) + 1
        cycles := s.cycles + 6 } := by
  simp only [execRts, State.pullWord_eq]; rfl

@[simp] theorem execRti_eq (s : State) :
    execRti s = .next
      { s with
        flags := Flags.unpack (s.peek (stackAddr (s.sp + 1)))
        sp := s.sp + 1 + 1 + 1
        pc := word (s.peek (stackAddr (s.sp + 1 + 1 + 1))) (s.peek (stackAddr (s.sp + 1 + 1)))
        cycles := s.cycles + 6 } := by
  simp only [execRti, State.returnFromBreak_eq]; rfl

@[simp] theorem execBrk_eq (s : State) :
    execBrk s = .next
      { ((s.pushWord (s.pc + 1)).push s.flags.pack) with
        flags := { s.flags with i := true }
        pc := word (s.peek (brkVector + 1)) (s.peek brkVector)
        cycles := s.cycles + 7 } := by
  simp only [execBrk, State.takeBreak_eq, State.setPc_peek, State.setPc_flags, State.setPc_pc]
  simp only [State.addCycles, State.setFlags, State.setPc, State.push, State.pushWord, State.memWrite, State.setSp]

@[simp] theorem execJmpInd_eq (ptr : Word) (s : State) :
    execJmpInd ptr s = .next
      { s.afterReads [ptr, word (hi ptr) (lo ptr + 1)] with
        pc := word (s.peek (word (hi ptr) (lo ptr + 1))) (s.peek ptr)
        cycles := s.cycles + 5 } := by
  simp only [execJmpInd, State.readJumpPointer, State.readWord_eq]; rfl

/-! The arms of exec: each is its meaning, and the meaning its shared operation in one form. -/

@[simp] theorem exec_ldaIndX (zp : Byte) (s : State) : exec (.ldaIndX zp) s = loadA (.mem (.indx zp)) 6 s := rfl
@[simp] theorem exec_ldaZp (zp : Byte) (s : State) : exec (.ldaZp zp) s = loadA (.mem (.zp zp)) 3 s := rfl
@[simp] theorem exec_ldaImm (imm : Byte) (s : State) : exec (.ldaImm imm) s = loadA (.imm imm) 2 s := rfl
@[simp] theorem exec_ldaAbs (addr : Word) (s : State) : exec (.ldaAbs addr) s = loadA (.mem (.abs addr)) 4 s := rfl
@[simp] theorem exec_ldaIndY (zp : Byte) (s : State) : exec (.ldaIndY zp) s = loadA (.mem (.indy zp)) 5 s := rfl
@[simp] theorem exec_ldaZpX (zp : Byte) (s : State) : exec (.ldaZpX zp) s = loadA (.mem (.zpx zp)) 4 s := rfl
@[simp] theorem exec_ldaAbsY (base : Word) (s : State) : exec (.ldaAbsY base) s = loadA (.mem (.absy base)) 4 s := rfl
@[simp] theorem exec_ldaAbsX (base : Word) (s : State) : exec (.ldaAbsX base) s = loadA (.mem (.absx base)) 4 s := rfl
@[simp] theorem exec_ldxImm (imm : Byte) (s : State) : exec (.ldxImm imm) s = loadX (.imm imm) 2 s := rfl
@[simp] theorem exec_ldxZp (zp : Byte) (s : State) : exec (.ldxZp zp) s = loadX (.mem (.zp zp)) 3 s := rfl
@[simp] theorem exec_ldxAbs (addr : Word) (s : State) : exec (.ldxAbs addr) s = loadX (.mem (.abs addr)) 4 s := rfl
@[simp] theorem exec_ldxZpY (zp : Byte) (s : State) : exec (.ldxZpY zp) s = loadX (.mem (.zpy zp)) 4 s := rfl
@[simp] theorem exec_ldxAbsY (base : Word) (s : State) : exec (.ldxAbsY base) s = loadX (.mem (.absy base)) 4 s := rfl
@[simp] theorem exec_ldyImm (imm : Byte) (s : State) : exec (.ldyImm imm) s = loadY (.imm imm) 2 s := rfl
@[simp] theorem exec_ldyZp (zp : Byte) (s : State) : exec (.ldyZp zp) s = loadY (.mem (.zp zp)) 3 s := rfl
@[simp] theorem exec_ldyAbs (addr : Word) (s : State) : exec (.ldyAbs addr) s = loadY (.mem (.abs addr)) 4 s := rfl
@[simp] theorem exec_ldyZpX (zp : Byte) (s : State) : exec (.ldyZpX zp) s = loadY (.mem (.zpx zp)) 4 s := rfl
@[simp] theorem exec_ldyAbsX (base : Word) (s : State) : exec (.ldyAbsX base) s = loadY (.mem (.absx base)) 4 s := rfl
@[simp] theorem exec_staIndX (zp : Byte) (s : State) : exec (.staIndX zp) s = storeA (.indx zp) 6 s := rfl
@[simp] theorem exec_staZp (zp : Byte) (s : State) : exec (.staZp zp) s = storeA (.zp zp) 3 s := rfl
@[simp] theorem exec_staAbs (addr : Word) (s : State) : exec (.staAbs addr) s = storeA (.abs addr) 4 s := rfl
@[simp] theorem exec_staIndY (zp : Byte) (s : State) : exec (.staIndY zp) s = storeA (.indy zp) 6 s := rfl
@[simp] theorem exec_staZpX (zp : Byte) (s : State) : exec (.staZpX zp) s = storeA (.zpx zp) 4 s := rfl
@[simp] theorem exec_staAbsY (base : Word) (s : State) : exec (.staAbsY base) s = storeA (.absy base) 5 s := rfl
@[simp] theorem exec_staAbsX (base : Word) (s : State) : exec (.staAbsX base) s = storeA (.absx base) 5 s := rfl
@[simp] theorem exec_stxZp (zp : Byte) (s : State) : exec (.stxZp zp) s = storeX (.zp zp) 3 s := rfl
@[simp] theorem exec_stxAbs (addr : Word) (s : State) : exec (.stxAbs addr) s = storeX (.abs addr) 4 s := rfl
@[simp] theorem exec_stxZpY (zp : Byte) (s : State) : exec (.stxZpY zp) s = storeX (.zpy zp) 4 s := rfl
@[simp] theorem exec_styZp (zp : Byte) (s : State) : exec (.styZp zp) s = storeY (.zp zp) 3 s := rfl
@[simp] theorem exec_styAbs (addr : Word) (s : State) : exec (.styAbs addr) s = storeY (.abs addr) 4 s := rfl
@[simp] theorem exec_styZpX (zp : Byte) (s : State) : exec (.styZpX zp) s = storeY (.zpx zp) 4 s := rfl
@[simp] theorem exec_adcIndX (zp : Byte) (s : State) : exec (.adcIndX zp) s = addToA (.mem (.indx zp)) 6 s := rfl
@[simp] theorem exec_adcZp (zp : Byte) (s : State) : exec (.adcZp zp) s = addToA (.mem (.zp zp)) 3 s := rfl
@[simp] theorem exec_adcImm (imm : Byte) (s : State) : exec (.adcImm imm) s = addToA (.imm imm) 2 s := rfl
@[simp] theorem exec_adcAbs (addr : Word) (s : State) : exec (.adcAbs addr) s = addToA (.mem (.abs addr)) 4 s := rfl
@[simp] theorem exec_adcIndY (zp : Byte) (s : State) : exec (.adcIndY zp) s = addToA (.mem (.indy zp)) 5 s := rfl
@[simp] theorem exec_adcZpX (zp : Byte) (s : State) : exec (.adcZpX zp) s = addToA (.mem (.zpx zp)) 4 s := rfl
@[simp] theorem exec_adcAbsY (base : Word) (s : State) :
    exec (.adcAbsY base) s = addToA (.mem (.absy base)) 4 s := rfl
@[simp] theorem exec_adcAbsX (base : Word) (s : State) :
    exec (.adcAbsX base) s = addToA (.mem (.absx base)) 4 s := rfl
@[simp] theorem exec_sbcIndX (zp : Byte) (s : State) : exec (.sbcIndX zp) s = subFromA (.mem (.indx zp)) 6 s := rfl
@[simp] theorem exec_sbcZp (zp : Byte) (s : State) : exec (.sbcZp zp) s = subFromA (.mem (.zp zp)) 3 s := rfl
@[simp] theorem exec_sbcImm (imm : Byte) (s : State) : exec (.sbcImm imm) s = subFromA (.imm imm) 2 s := rfl
@[simp] theorem exec_sbcAbs (addr : Word) (s : State) : exec (.sbcAbs addr) s = subFromA (.mem (.abs addr)) 4 s := rfl
@[simp] theorem exec_sbcIndY (zp : Byte) (s : State) : exec (.sbcIndY zp) s = subFromA (.mem (.indy zp)) 5 s := rfl
@[simp] theorem exec_sbcZpX (zp : Byte) (s : State) : exec (.sbcZpX zp) s = subFromA (.mem (.zpx zp)) 4 s := rfl
@[simp] theorem exec_sbcAbsY (base : Word) (s : State) :
    exec (.sbcAbsY base) s = subFromA (.mem (.absy base)) 4 s := rfl
@[simp] theorem exec_sbcAbsX (base : Word) (s : State) :
    exec (.sbcAbsX base) s = subFromA (.mem (.absx base)) 4 s := rfl
@[simp] theorem exec_andIndX (zp : Byte) (s : State) : exec (.andIndX zp) s = andA (.mem (.indx zp)) 6 s := rfl
@[simp] theorem exec_andZp (zp : Byte) (s : State) : exec (.andZp zp) s = andA (.mem (.zp zp)) 3 s := rfl
@[simp] theorem exec_andImm (imm : Byte) (s : State) : exec (.andImm imm) s = andA (.imm imm) 2 s := rfl
@[simp] theorem exec_andAbs (addr : Word) (s : State) : exec (.andAbs addr) s = andA (.mem (.abs addr)) 4 s := rfl
@[simp] theorem exec_andIndY (zp : Byte) (s : State) : exec (.andIndY zp) s = andA (.mem (.indy zp)) 5 s := rfl
@[simp] theorem exec_andZpX (zp : Byte) (s : State) : exec (.andZpX zp) s = andA (.mem (.zpx zp)) 4 s := rfl
@[simp] theorem exec_andAbsY (base : Word) (s : State) : exec (.andAbsY base) s = andA (.mem (.absy base)) 4 s := rfl
@[simp] theorem exec_andAbsX (base : Word) (s : State) : exec (.andAbsX base) s = andA (.mem (.absx base)) 4 s := rfl
@[simp] theorem exec_oraIndX (zp : Byte) (s : State) : exec (.oraIndX zp) s = orA (.mem (.indx zp)) 6 s := rfl
@[simp] theorem exec_oraZp (zp : Byte) (s : State) : exec (.oraZp zp) s = orA (.mem (.zp zp)) 3 s := rfl
@[simp] theorem exec_oraImm (imm : Byte) (s : State) : exec (.oraImm imm) s = orA (.imm imm) 2 s := rfl
@[simp] theorem exec_oraAbs (addr : Word) (s : State) : exec (.oraAbs addr) s = orA (.mem (.abs addr)) 4 s := rfl
@[simp] theorem exec_oraIndY (zp : Byte) (s : State) : exec (.oraIndY zp) s = orA (.mem (.indy zp)) 5 s := rfl
@[simp] theorem exec_oraZpX (zp : Byte) (s : State) : exec (.oraZpX zp) s = orA (.mem (.zpx zp)) 4 s := rfl
@[simp] theorem exec_oraAbsY (base : Word) (s : State) : exec (.oraAbsY base) s = orA (.mem (.absy base)) 4 s := rfl
@[simp] theorem exec_oraAbsX (base : Word) (s : State) : exec (.oraAbsX base) s = orA (.mem (.absx base)) 4 s := rfl
@[simp] theorem exec_eorIndX (zp : Byte) (s : State) : exec (.eorIndX zp) s = eorA (.mem (.indx zp)) 6 s := rfl
@[simp] theorem exec_eorZp (zp : Byte) (s : State) : exec (.eorZp zp) s = eorA (.mem (.zp zp)) 3 s := rfl
@[simp] theorem exec_eorImm (imm : Byte) (s : State) : exec (.eorImm imm) s = eorA (.imm imm) 2 s := rfl
@[simp] theorem exec_eorAbs (addr : Word) (s : State) : exec (.eorAbs addr) s = eorA (.mem (.abs addr)) 4 s := rfl
@[simp] theorem exec_eorIndY (zp : Byte) (s : State) : exec (.eorIndY zp) s = eorA (.mem (.indy zp)) 5 s := rfl
@[simp] theorem exec_eorZpX (zp : Byte) (s : State) : exec (.eorZpX zp) s = eorA (.mem (.zpx zp)) 4 s := rfl
@[simp] theorem exec_eorAbsY (base : Word) (s : State) : exec (.eorAbsY base) s = eorA (.mem (.absy base)) 4 s := rfl
@[simp] theorem exec_eorAbsX (base : Word) (s : State) : exec (.eorAbsX base) s = eorA (.mem (.absx base)) 4 s := rfl
@[simp] theorem exec_aslZp (zp : Byte) (s : State) : exec (.aslZp zp) s = shiftMem shiftLeft (.zp zp) 5 s := rfl
@[simp] theorem exec_aslAcc (s : State) : exec .aslAcc s = shiftA shiftLeft 2 s := rfl
@[simp] theorem exec_aslAbs (addr : Word) (s : State) :
    exec (.aslAbs addr) s = shiftMem shiftLeft (.abs addr) 6 s := rfl
@[simp] theorem exec_aslZpX (zp : Byte) (s : State) : exec (.aslZpX zp) s = shiftMem shiftLeft (.zpx zp) 6 s := rfl
@[simp] theorem exec_aslAbsX (base : Word) (s : State) :
    exec (.aslAbsX base) s = shiftMem shiftLeft (.absx base) 7 s := rfl
@[simp] theorem exec_lsrZp (zp : Byte) (s : State) : exec (.lsrZp zp) s = shiftMem shiftRight (.zp zp) 5 s := rfl
@[simp] theorem exec_lsrAcc (s : State) : exec .lsrAcc s = shiftA shiftRight 2 s := rfl
@[simp] theorem exec_lsrAbs (addr : Word) (s : State) :
    exec (.lsrAbs addr) s = shiftMem shiftRight (.abs addr) 6 s := rfl
@[simp] theorem exec_lsrZpX (zp : Byte) (s : State) : exec (.lsrZpX zp) s = shiftMem shiftRight (.zpx zp) 6 s := rfl
@[simp] theorem exec_lsrAbsX (base : Word) (s : State) :
    exec (.lsrAbsX base) s = shiftMem shiftRight (.absx base) 7 s := rfl
@[simp] theorem exec_rolZp (zp : Byte) (s : State) : exec (.rolZp zp) s = shiftMem rotateLeft (.zp zp) 5 s := rfl
@[simp] theorem exec_rolAcc (s : State) : exec .rolAcc s = shiftA rotateLeft 2 s := rfl
@[simp] theorem exec_rolAbs (addr : Word) (s : State) :
    exec (.rolAbs addr) s = shiftMem rotateLeft (.abs addr) 6 s := rfl
@[simp] theorem exec_rolZpX (zp : Byte) (s : State) : exec (.rolZpX zp) s = shiftMem rotateLeft (.zpx zp) 6 s := rfl
@[simp] theorem exec_rolAbsX (base : Word) (s : State) :
    exec (.rolAbsX base) s = shiftMem rotateLeft (.absx base) 7 s := rfl
@[simp] theorem exec_rorZp (zp : Byte) (s : State) : exec (.rorZp zp) s = shiftMem rotateRight (.zp zp) 5 s := rfl
@[simp] theorem exec_rorAcc (s : State) : exec .rorAcc s = shiftA rotateRight 2 s := rfl
@[simp] theorem exec_rorAbs (addr : Word) (s : State) :
    exec (.rorAbs addr) s = shiftMem rotateRight (.abs addr) 6 s := rfl
@[simp] theorem exec_rorZpX (zp : Byte) (s : State) : exec (.rorZpX zp) s = shiftMem rotateRight (.zpx zp) 6 s := rfl
@[simp] theorem exec_rorAbsX (base : Word) (s : State) :
    exec (.rorAbsX base) s = shiftMem rotateRight (.absx base) 7 s := rfl
@[simp] theorem exec_incZp (zp : Byte) (s : State) : exec (.incZp zp) s = stepMem 1 (.zp zp) 5 s := rfl
@[simp] theorem exec_incAbs (addr : Word) (s : State) : exec (.incAbs addr) s = stepMem 1 (.abs addr) 6 s := rfl
@[simp] theorem exec_incZpX (zp : Byte) (s : State) : exec (.incZpX zp) s = stepMem 1 (.zpx zp) 6 s := rfl
@[simp] theorem exec_incAbsX (base : Word) (s : State) : exec (.incAbsX base) s = stepMem 1 (.absx base) 7 s := rfl
@[simp] theorem exec_decZp (zp : Byte) (s : State) : exec (.decZp zp) s = stepMem (-1) (.zp zp) 5 s := rfl
@[simp] theorem exec_decAbs (addr : Word) (s : State) : exec (.decAbs addr) s = stepMem (-1) (.abs addr) 6 s := rfl
@[simp] theorem exec_decZpX (zp : Byte) (s : State) : exec (.decZpX zp) s = stepMem (-1) (.zpx zp) 6 s := rfl
@[simp] theorem exec_decAbsX (base : Word) (s : State) : exec (.decAbsX base) s = stepMem (-1) (.absx base) 7 s := rfl
@[simp] theorem exec_inx (s : State) : exec .inx s = .next (((s.setX (s.x + 1)).setZN (s.x + 1)).addCycles 2) := rfl
@[simp] theorem exec_iny (s : State) : exec .iny s = .next (((s.setY (s.y + 1)).setZN (s.y + 1)).addCycles 2) := rfl
@[simp] theorem exec_dex (s : State) : exec .dex s = .next (((s.setX (s.x - 1)).setZN (s.x - 1)).addCycles 2) := rfl
@[simp] theorem exec_dey (s : State) : exec .dey s = .next (((s.setY (s.y - 1)).setZN (s.y - 1)).addCycles 2) := rfl
@[simp] theorem exec_cmpIndX (zp : Byte) (s : State) : exec (.cmpIndX zp) s = compareA (.mem (.indx zp)) 6 s := rfl
@[simp] theorem exec_cmpZp (zp : Byte) (s : State) : exec (.cmpZp zp) s = compareA (.mem (.zp zp)) 3 s := rfl
@[simp] theorem exec_cmpImm (imm : Byte) (s : State) : exec (.cmpImm imm) s = compareA (.imm imm) 2 s := rfl
@[simp] theorem exec_cmpAbs (addr : Word) (s : State) : exec (.cmpAbs addr) s = compareA (.mem (.abs addr)) 4 s := rfl
@[simp] theorem exec_cmpIndY (zp : Byte) (s : State) : exec (.cmpIndY zp) s = compareA (.mem (.indy zp)) 5 s := rfl
@[simp] theorem exec_cmpZpX (zp : Byte) (s : State) : exec (.cmpZpX zp) s = compareA (.mem (.zpx zp)) 4 s := rfl
@[simp] theorem exec_cmpAbsY (base : Word) (s : State) :
    exec (.cmpAbsY base) s = compareA (.mem (.absy base)) 4 s := rfl
@[simp] theorem exec_cmpAbsX (base : Word) (s : State) :
    exec (.cmpAbsX base) s = compareA (.mem (.absx base)) 4 s := rfl
@[simp] theorem exec_cpxImm (imm : Byte) (s : State) : exec (.cpxImm imm) s = compareX (.imm imm) 2 s := rfl
@[simp] theorem exec_cpxZp (zp : Byte) (s : State) : exec (.cpxZp zp) s = compareX (.mem (.zp zp)) 3 s := rfl
@[simp] theorem exec_cpxAbs (addr : Word) (s : State) : exec (.cpxAbs addr) s = compareX (.mem (.abs addr)) 4 s := rfl
@[simp] theorem exec_cpyImm (imm : Byte) (s : State) : exec (.cpyImm imm) s = compareY (.imm imm) 2 s := rfl
@[simp] theorem exec_cpyZp (zp : Byte) (s : State) : exec (.cpyZp zp) s = compareY (.mem (.zp zp)) 3 s := rfl
@[simp] theorem exec_cpyAbs (addr : Word) (s : State) : exec (.cpyAbs addr) s = compareY (.mem (.abs addr)) 4 s := rfl
@[simp] theorem exec_bitZp (zp : Byte) (s : State) : exec (.bitZp zp) s = bitTestA (.mem (.zp zp)) 3 s := rfl
@[simp] theorem exec_bitAbs (addr : Word) (s : State) : exec (.bitAbs addr) s = bitTestA (.mem (.abs addr)) 4 s := rfl
@[simp] theorem exec_bpl (off : Byte) (s : State) : exec (.bpl off) s = branchIf (!s.flags.n) off s := rfl
@[simp] theorem exec_bmi (off : Byte) (s : State) : exec (.bmi off) s = branchIf s.flags.n off s := rfl
@[simp] theorem exec_bvc (off : Byte) (s : State) : exec (.bvc off) s = branchIf (!s.flags.v) off s := rfl
@[simp] theorem exec_bvs (off : Byte) (s : State) : exec (.bvs off) s = branchIf s.flags.v off s := rfl
@[simp] theorem exec_bcc (off : Byte) (s : State) : exec (.bcc off) s = branchIf (!s.flags.c) off s := rfl
@[simp] theorem exec_bcs (off : Byte) (s : State) : exec (.bcs off) s = branchIf s.flags.c off s := rfl
@[simp] theorem exec_bne (off : Byte) (s : State) : exec (.bne off) s = branchIf (!s.flags.z) off s := rfl
@[simp] theorem exec_beq (off : Byte) (s : State) : exec (.beq off) s = branchIf s.flags.z off s := rfl
@[simp] theorem exec_pha (s : State) : exec .pha s = .next ((s.push s.a).addCycles 3) := rfl
@[simp] theorem exec_pla (s : State) : exec .pla s = execPla s := rfl
@[simp] theorem exec_php (s : State) : exec .php s = .next ((s.push s.flags.pack).addCycles 3) := rfl
@[simp] theorem exec_plp (s : State) : exec .plp s = execPlp s := rfl
@[simp] theorem exec_jsrAbs (addr : Word) (s : State) :
    exec (.jsrAbs addr) s = .next (((s.pushWord (s.pc - 1)).setPc addr).addCycles 6) := rfl
@[simp] theorem exec_rts (s : State) : exec .rts s = execRts s := rfl
@[simp] theorem exec_brk (s : State) : exec .brk s = execBrk s := rfl
@[simp] theorem exec_rti (s : State) : exec .rti s = execRti s := rfl
@[simp] theorem exec_jmpAbs (addr : Word) (s : State) :
    exec (.jmpAbs addr) s = .next ((s.setPc addr).addCycles 3) := rfl
@[simp] theorem exec_jmpInd (ptr : Word) (s : State) : exec (.jmpInd ptr) s = execJmpInd ptr s := rfl
@[simp] theorem exec_tax (s : State) : exec .tax s = .next (((s.setX s.a).setZN s.a).addCycles 2) := rfl
@[simp] theorem exec_txa (s : State) : exec .txa s = .next (((s.setA s.x).setZN s.x).addCycles 2) := rfl
@[simp] theorem exec_tay (s : State) : exec .tay s = .next (((s.setY s.a).setZN s.a).addCycles 2) := rfl
@[simp] theorem exec_tya (s : State) : exec .tya s = .next (((s.setA s.y).setZN s.y).addCycles 2) := rfl
@[simp] theorem exec_txs (s : State) : exec .txs s = .next ((s.setSp s.x).addCycles 2) := rfl
@[simp] theorem exec_tsx (s : State) : exec .tsx s = .next (((s.setX s.sp).setZN s.sp).addCycles 2) := rfl
@[simp] theorem exec_sec (s : State) :
    exec .sec s = .next ((s.setFlags { s.flags with c := true }).addCycles 2) := rfl
@[simp] theorem exec_clc (s : State) :
    exec .clc s = .next ((s.setFlags { s.flags with c := false }).addCycles 2) := rfl
@[simp] theorem exec_sei (s : State) :
    exec .sei s = .next ((s.setFlags { s.flags with i := true }).addCycles 2) := rfl
@[simp] theorem exec_cli (s : State) :
    exec .cli s = .next ((s.setFlags { s.flags with i := false }).addCycles 2) := rfl
@[simp] theorem exec_sed (s : State) :
    exec .sed s = .next ((s.setFlags { s.flags with d := true }).addCycles 2) := rfl
@[simp] theorem exec_cld (s : State) :
    exec .cld s = .next ((s.setFlags { s.flags with d := false }).addCycles 2) := rfl
@[simp] theorem exec_clv (s : State) :
    exec .clv s = .next ((s.setFlags { s.flags with v := false }).addCycles 2) := rfl
@[simp] theorem exec_nop (s : State) : exec .nop s = .next (s.addCycles 2) := rfl
@[simp] theorem exec_stop (s : State) : exec .stop s = .next s.setHalted := rfl

end Sys2Proof.Machine
end

