-- ==== Sys2Proof/Laws/Map.lean ====
section
/-! SUPPORT. What an entry of the opcode map stands for: each form builds instructions with the opcode it is listed
under and the operand bytes it takes. Inversion of the map for proofs about every opcode at once. -/

namespace Sys2Proof

/-- A form builds instructions of the opcode `op`, with the operand bytes of the form, none of them STOP. -/
def Form.Describes (op : Byte) : Form → Prop
  | .bare i => (∀ cfg, i.opcode cfg = op) ∧ i.arg.bytes = [] ∧ i.arg.bytesRead = 1 ∧ i ≠ .stop ∧ i ≠ .brk
  | .padded i => i = .brk ∧ op = 0x00
  | .byte f => ∀ b, (∀ cfg, (f b).opcode cfg = op) ∧ (f b).arg.bytes = [b] ∧ (f b).arg.bytesRead = 2 ∧
      f b ≠ .stop ∧ f b ≠ .brk
  | .word f => ∀ w, (∀ cfg, (f w).opcode cfg = op) ∧ (f w).arg.bytes = [lo w, hi w] ∧ (f w).arg.bytesRead = 3 ∧
      f w ≠ .stop ∧ f w ≠ .brk

theorem opcodeRow0_describes : ∀ p ∈ opcodeRow0, Form.Describes p.1 p.2 := by
  unfold opcodeRow0
  repeat' first
    | exact List.forall_mem_nil _
    | refine List.forall_mem_cons.2 ⟨?_, ?_⟩
    | exact ⟨fun _ => rfl, rfl, rfl, nofun, nofun⟩
    | exact fun _ => ⟨fun _ => rfl, rfl, rfl, nofun, nofun⟩
    | exact ⟨rfl, rfl⟩

theorem opcodeRow1_describes : ∀ p ∈ opcodeRow1, Form.Describes p.1 p.2 := by
  unfold opcodeRow1
  repeat' first
    | exact List.forall_mem_nil _
    | refine List.forall_mem_cons.2 ⟨?_, ?_⟩
    | exact ⟨fun _ => rfl, rfl, rfl, nofun, nofun⟩
    | exact fun _ => ⟨fun _ => rfl, rfl, rfl, nofun, nofun⟩

theorem opcodeRow2_describes : ∀ p ∈ opcodeRow2, Form.Describes p.1 p.2 := by
  unfold opcodeRow2
  repeat' first
    | exact List.forall_mem_nil _
    | refine List.forall_mem_cons.2 ⟨?_, ?_⟩
    | exact ⟨fun _ => rfl, rfl, rfl, nofun, nofun⟩
    | exact fun _ => ⟨fun _ => rfl, rfl, rfl, nofun, nofun⟩

theorem opcodeRow3_describes : ∀ p ∈ opcodeRow3, Form.Describes p.1 p.2 := by
  unfold opcodeRow3
  repeat' first
    | exact List.forall_mem_nil _
    | refine List.forall_mem_cons.2 ⟨?_, ?_⟩
    | exact ⟨fun _ => rfl, rfl, rfl, nofun, nofun⟩
    | exact fun _ => ⟨fun _ => rfl, rfl, rfl, nofun, nofun⟩

theorem opcodeRow4_describes : ∀ p ∈ opcodeRow4, Form.Describes p.1 p.2 := by
  unfold opcodeRow4
  repeat' first
    | exact List.forall_mem_nil _
    | refine List.forall_mem_cons.2 ⟨?_, ?_⟩
    | exact ⟨fun _ => rfl, rfl, rfl, nofun, nofun⟩
    | exact fun _ => ⟨fun _ => rfl, rfl, rfl, nofun, nofun⟩

theorem opcodeRow5_describes : ∀ p ∈ opcodeRow5, Form.Describes p.1 p.2 := by
  unfold opcodeRow5
  repeat' first
    | exact List.forall_mem_nil _
    | refine List.forall_mem_cons.2 ⟨?_, ?_⟩
    | exact ⟨fun _ => rfl, rfl, rfl, nofun, nofun⟩
    | exact fun _ => ⟨fun _ => rfl, rfl, rfl, nofun, nofun⟩

theorem opcodeRow6_describes : ∀ p ∈ opcodeRow6, Form.Describes p.1 p.2 := by
  unfold opcodeRow6
  repeat' first
    | exact List.forall_mem_nil _
    | refine List.forall_mem_cons.2 ⟨?_, ?_⟩
    | exact ⟨fun _ => rfl, rfl, rfl, nofun, nofun⟩
    | exact fun _ => ⟨fun _ => rfl, rfl, rfl, nofun, nofun⟩

theorem opcodeRow7_describes : ∀ p ∈ opcodeRow7, Form.Describes p.1 p.2 := by
  unfold opcodeRow7
  repeat' first
    | exact List.forall_mem_nil _
    | refine List.forall_mem_cons.2 ⟨?_, ?_⟩
    | exact ⟨fun _ => rfl, rfl, rfl, nofun, nofun⟩
    | exact fun _ => ⟨fun _ => rfl, rfl, rfl, nofun, nofun⟩

theorem opcodeRow8_describes : ∀ p ∈ opcodeRow8, Form.Describes p.1 p.2 := by
  unfold opcodeRow8
  repeat' first
    | exact List.forall_mem_nil _
    | refine List.forall_mem_cons.2 ⟨?_, ?_⟩
    | exact ⟨fun _ => rfl, rfl, rfl, nofun, nofun⟩
    | exact fun _ => ⟨fun _ => rfl, rfl, rfl, nofun, nofun⟩

theorem opcodeRow9_describes : ∀ p ∈ opcodeRow9, Form.Describes p.1 p.2 := by
  unfold opcodeRow9
  repeat' first
    | exact List.forall_mem_nil _
    | refine List.forall_mem_cons.2 ⟨?_, ?_⟩
    | exact ⟨fun _ => rfl, rfl, rfl, nofun, nofun⟩
    | exact fun _ => ⟨fun _ => rfl, rfl, rfl, nofun, nofun⟩

theorem opcodeRowA_describes : ∀ p ∈ opcodeRowA, Form.Describes p.1 p.2 := by
  unfold opcodeRowA
  repeat' first
    | exact List.forall_mem_nil _
    | refine List.forall_mem_cons.2 ⟨?_, ?_⟩
    | exact ⟨fun _ => rfl, rfl, rfl, nofun, nofun⟩
    | exact fun _ => ⟨fun _ => rfl, rfl, rfl, nofun, nofun⟩

theorem opcodeRowB_describes : ∀ p ∈ opcodeRowB, Form.Describes p.1 p.2 := by
  unfold opcodeRowB
  repeat' first
    | exact List.forall_mem_nil _
    | refine List.forall_mem_cons.2 ⟨?_, ?_⟩
    | exact ⟨fun _ => rfl, rfl, rfl, nofun, nofun⟩
    | exact fun _ => ⟨fun _ => rfl, rfl, rfl, nofun, nofun⟩

theorem opcodeRowC_describes : ∀ p ∈ opcodeRowC, Form.Describes p.1 p.2 := by
  unfold opcodeRowC
  repeat' first
    | exact List.forall_mem_nil _
    | refine List.forall_mem_cons.2 ⟨?_, ?_⟩
    | exact ⟨fun _ => rfl, rfl, rfl, nofun, nofun⟩
    | exact fun _ => ⟨fun _ => rfl, rfl, rfl, nofun, nofun⟩

theorem opcodeRowD_describes : ∀ p ∈ opcodeRowD, Form.Describes p.1 p.2 := by
  unfold opcodeRowD
  repeat' first
    | exact List.forall_mem_nil _
    | refine List.forall_mem_cons.2 ⟨?_, ?_⟩
    | exact ⟨fun _ => rfl, rfl, rfl, nofun, nofun⟩
    | exact fun _ => ⟨fun _ => rfl, rfl, rfl, nofun, nofun⟩

theorem opcodeRowE_describes : ∀ p ∈ opcodeRowE, Form.Describes p.1 p.2 := by
  unfold opcodeRowE
  repeat' first
    | exact List.forall_mem_nil _
    | refine List.forall_mem_cons.2 ⟨?_, ?_⟩
    | exact ⟨fun _ => rfl, rfl, rfl, nofun, nofun⟩
    | exact fun _ => ⟨fun _ => rfl, rfl, rfl, nofun, nofun⟩

theorem opcodeRowF_describes : ∀ p ∈ opcodeRowF, Form.Describes p.1 p.2 := by
  unfold opcodeRowF
  repeat' first
    | exact List.forall_mem_nil _
    | refine List.forall_mem_cons.2 ⟨?_, ?_⟩
    | exact ⟨fun _ => rfl, rfl, rfl, nofun, nofun⟩
    | exact fun _ => ⟨fun _ => rfl, rfl, rfl, nofun, nofun⟩

theorem opcodeMap_describes : ∀ row ∈ opcodeMap, ∀ p ∈ row, Form.Describes p.1 p.2 := by
  simp only [opcodeMap, List.forall_mem_cons]
  exact ⟨opcodeRow0_describes, opcodeRow1_describes, opcodeRow2_describes, opcodeRow3_describes,
    opcodeRow4_describes, opcodeRow5_describes, opcodeRow6_describes, opcodeRow7_describes,
    opcodeRow8_describes, opcodeRow9_describes, opcodeRowA_describes, opcodeRowB_describes,
    opcodeRowC_describes, opcodeRowD_describes, opcodeRowE_describes, opcodeRowF_describes, by simp⟩

theorem mem_of_lookup {α β : Type} [BEq α] [LawfulBEq α] {l : List (α × β)} {a : α} {b : β}
    (h : l.lookup a = some b) : (a, b) ∈ l := by
  induction l with
  | nil => simp at h
  | cons e l ih =>
    obtain ⟨x, y⟩ := e
    rw [List.lookup_cons] at h
    by_cases hx : a == x
    · simp only [hx] at h
      simp only [beq_iff_eq] at hx
      simp_all
    · simp only [hx] at h
      simp [ih h]

/-- The inversion of the opcode map: a documented opcode's form builds instructions with that opcode. -/
theorem documentedForm_describes {op : Byte} {form : Form} (h : documentedForm op = some form) :
    form.Describes op := by
  have := mem_of_lookup h
  rw [List.getD_eq_getElem?_getD] at this
  cases hk : opcodeMap[op.toNat / 16]? with
  | none => simp [hk] at this
  | some row => rw [hk] at this; exact opcodeMap_describes row (List.mem_of_getElem? hk) _ this

end Sys2Proof
end

