-- ==== Sys2Proof/Laws/PerInstr.lean ====
section
/-! SUPPORT. A statement about every instruction as syntax, one lemma per constructor. -/

namespace Sys2Proof.Laws

/-- The encoding of an instruction has the length its mode gives it and begins with its opcode (30_encoding.md
R120 to R122). -/
def Layout.Statement (i : Instr) : Prop :=
  ∀ cfg : Config, (encode cfg i).length = i.arg.length ∧ (encode cfg i).head? = some (i.opcode cfg)

theorem Layout.ldaIndX (zp : Byte) : Layout.Statement (.ldaIndX zp) := fun _ => ⟨rfl, rfl⟩
theorem Layout.ldaZp (zp : Byte) : Layout.Statement (.ldaZp zp) := fun _ => ⟨rfl, rfl⟩
theorem Layout.ldaImm (imm : Byte) : Layout.Statement (.ldaImm imm) := fun _ => ⟨rfl, rfl⟩
theorem Layout.ldaAbs (addr : Word) : Layout.Statement (.ldaAbs addr) := fun _ => ⟨rfl, rfl⟩
theorem Layout.ldaIndY (zp : Byte) : Layout.Statement (.ldaIndY zp) := fun _ => ⟨rfl, rfl⟩
theorem Layout.ldaZpX (zp : Byte) : Layout.Statement (.ldaZpX zp) := fun _ => ⟨rfl, rfl⟩
theorem Layout.ldaAbsY (base : Word) : Layout.Statement (.ldaAbsY base) := fun _ => ⟨rfl, rfl⟩
theorem Layout.ldaAbsX (base : Word) : Layout.Statement (.ldaAbsX base) := fun _ => ⟨rfl, rfl⟩
theorem Layout.ldxImm (imm : Byte) : Layout.Statement (.ldxImm imm) := fun _ => ⟨rfl, rfl⟩
theorem Layout.ldxZp (zp : Byte) : Layout.Statement (.ldxZp zp) := fun _ => ⟨rfl, rfl⟩
theorem Layout.ldxAbs (addr : Word) : Layout.Statement (.ldxAbs addr) := fun _ => ⟨rfl, rfl⟩
theorem Layout.ldxZpY (zp : Byte) : Layout.Statement (.ldxZpY zp) := fun _ => ⟨rfl, rfl⟩
theorem Layout.ldxAbsY (base : Word) : Layout.Statement (.ldxAbsY base) := fun _ => ⟨rfl, rfl⟩
theorem Layout.ldyImm (imm : Byte) : Layout.Statement (.ldyImm imm) := fun _ => ⟨rfl, rfl⟩
theorem Layout.ldyZp (zp : Byte) : Layout.Statement (.ldyZp zp) := fun _ => ⟨rfl, rfl⟩
theorem Layout.ldyAbs (addr : Word) : Layout.Statement (.ldyAbs addr) := fun _ => ⟨rfl, rfl⟩
theorem Layout.ldyZpX (zp : Byte) : Layout.Statement (.ldyZpX zp) := fun _ => ⟨rfl, rfl⟩
theorem Layout.ldyAbsX (base : Word) : Layout.Statement (.ldyAbsX base) := fun _ => ⟨rfl, rfl⟩
theorem Layout.staIndX (zp : Byte) : Layout.Statement (.staIndX zp) := fun _ => ⟨rfl, rfl⟩
theorem Layout.staZp (zp : Byte) : Layout.Statement (.staZp zp) := fun _ => ⟨rfl, rfl⟩
theorem Layout.staAbs (addr : Word) : Layout.Statement (.staAbs addr) := fun _ => ⟨rfl, rfl⟩
theorem Layout.staIndY (zp : Byte) : Layout.Statement (.staIndY zp) := fun _ => ⟨rfl, rfl⟩
theorem Layout.staZpX (zp : Byte) : Layout.Statement (.staZpX zp) := fun _ => ⟨rfl, rfl⟩
theorem Layout.staAbsY (base : Word) : Layout.Statement (.staAbsY base) := fun _ => ⟨rfl, rfl⟩
theorem Layout.staAbsX (base : Word) : Layout.Statement (.staAbsX base) := fun _ => ⟨rfl, rfl⟩
theorem Layout.stxZp (zp : Byte) : Layout.Statement (.stxZp zp) := fun _ => ⟨rfl, rfl⟩
theorem Layout.stxAbs (addr : Word) : Layout.Statement (.stxAbs addr) := fun _ => ⟨rfl, rfl⟩
theorem Layout.stxZpY (zp : Byte) : Layout.Statement (.stxZpY zp) := fun _ => ⟨rfl, rfl⟩
theorem Layout.styZp (zp : Byte) : Layout.Statement (.styZp zp) := fun _ => ⟨rfl, rfl⟩
theorem Layout.styAbs (addr : Word) : Layout.Statement (.styAbs addr) := fun _ => ⟨rfl, rfl⟩
theorem Layout.styZpX (zp : Byte) : Layout.Statement (.styZpX zp) := fun _ => ⟨rfl, rfl⟩
theorem Layout.adcIndX (zp : Byte) : Layout.Statement (.adcIndX zp) := fun _ => ⟨rfl, rfl⟩
theorem Layout.adcZp (zp : Byte) : Layout.Statement (.adcZp zp) := fun _ => ⟨rfl, rfl⟩
theorem Layout.adcImm (imm : Byte) : Layout.Statement (.adcImm imm) := fun _ => ⟨rfl, rfl⟩
theorem Layout.adcAbs (addr : Word) : Layout.Statement (.adcAbs addr) := fun _ => ⟨rfl, rfl⟩
theorem Layout.adcIndY (zp : Byte) : Layout.Statement (.adcIndY zp) := fun _ => ⟨rfl, rfl⟩
theorem Layout.adcZpX (zp : Byte) : Layout.Statement (.adcZpX zp) := fun _ => ⟨rfl, rfl⟩
theorem Layout.adcAbsY (base : Word) : Layout.Statement (.adcAbsY base) := fun _ => ⟨rfl, rfl⟩
theorem Layout.adcAbsX (base : Word) : Layout.Statement (.adcAbsX base) := fun _ => ⟨rfl, rfl⟩
theorem Layout.sbcIndX (zp : Byte) : Layout.Statement (.sbcIndX zp) := fun _ => ⟨rfl, rfl⟩
theorem Layout.sbcZp (zp : Byte) : Layout.Statement (.sbcZp zp) := fun _ => ⟨rfl, rfl⟩
theorem Layout.sbcImm (imm : Byte) : Layout.Statement (.sbcImm imm) := fun _ => ⟨rfl, rfl⟩
theorem Layout.sbcAbs (addr : Word) : Layout.Statement (.sbcAbs addr) := fun _ => ⟨rfl, rfl⟩
theorem Layout.sbcIndY (zp : Byte) : Layout.Statement (.sbcIndY zp) := fun _ => ⟨rfl, rfl⟩
theorem Layout.sbcZpX (zp : Byte) : Layout.Statement (.sbcZpX zp) := fun _ => ⟨rfl, rfl⟩
theorem Layout.sbcAbsY (base : Word) : Layout.Statement (.sbcAbsY base) := fun _ => ⟨rfl, rfl⟩
theorem Layout.sbcAbsX (base : Word) : Layout.Statement (.sbcAbsX base) := fun _ => ⟨rfl, rfl⟩
theorem Layout.andIndX (zp : Byte) : Layout.Statement (.andIndX zp) := fun _ => ⟨rfl, rfl⟩
theorem Layout.andZp (zp : Byte) : Layout.Statement (.andZp zp) := fun _ => ⟨rfl, rfl⟩
theorem Layout.andImm (imm : Byte) : Layout.Statement (.andImm imm) := fun _ => ⟨rfl, rfl⟩
theorem Layout.andAbs (addr : Word) : Layout.Statement (.andAbs addr) := fun _ => ⟨rfl, rfl⟩
theorem Layout.andIndY (zp : Byte) : Layout.Statement (.andIndY zp) := fun _ => ⟨rfl, rfl⟩
theorem Layout.andZpX (zp : Byte) : Layout.Statement (.andZpX zp) := fun _ => ⟨rfl, rfl⟩
theorem Layout.andAbsY (base : Word) : Layout.Statement (.andAbsY base) := fun _ => ⟨rfl, rfl⟩
theorem Layout.andAbsX (base : Word) : Layout.Statement (.andAbsX base) := fun _ => ⟨rfl, rfl⟩
theorem Layout.oraIndX (zp : Byte) : Layout.Statement (.oraIndX zp) := fun _ => ⟨rfl, rfl⟩
theorem Layout.oraZp (zp : Byte) : Layout.Statement (.oraZp zp) := fun _ => ⟨rfl, rfl⟩
theorem Layout.oraImm (imm : Byte) : Layout.Statement (.oraImm imm) := fun _ => ⟨rfl, rfl⟩
theorem Layout.oraAbs (addr : Word) : Layout.Statement (.oraAbs addr) := fun _ => ⟨rfl, rfl⟩
theorem Layout.oraIndY (zp : Byte) : Layout.Statement (.oraIndY zp) := fun _ => ⟨rfl, rfl⟩
theorem Layout.oraZpX (zp : Byte) : Layout.Statement (.oraZpX zp) := fun _ => ⟨rfl, rfl⟩
theorem Layout.oraAbsY (base : Word) : Layout.Statement (.oraAbsY base) := fun _ => ⟨rfl, rfl⟩
theorem Layout.oraAbsX (base : Word) : Layout.Statement (.oraAbsX base) := fun _ => ⟨rfl, rfl⟩
theorem Layout.eorIndX (zp : Byte) : Layout.Statement (.eorIndX zp) := fun _ => ⟨rfl, rfl⟩
theorem Layout.eorZp (zp : Byte) : Layout.Statement (.eorZp zp) := fun _ => ⟨rfl, rfl⟩
theorem Layout.eorImm (imm : Byte) : Layout.Statement (.eorImm imm) := fun _ => ⟨rfl, rfl⟩
theorem Layout.eorAbs (addr : Word) : Layout.Statement (.eorAbs addr) := fun _ => ⟨rfl, rfl⟩
theorem Layout.eorIndY (zp : Byte) : Layout.Statement (.eorIndY zp) := fun _ => ⟨rfl, rfl⟩
theorem Layout.eorZpX (zp : Byte) : Layout.Statement (.eorZpX zp) := fun _ => ⟨rfl, rfl⟩
theorem Layout.eorAbsY (base : Word) : Layout.Statement (.eorAbsY base) := fun _ => ⟨rfl, rfl⟩
theorem Layout.eorAbsX (base : Word) : Layout.Statement (.eorAbsX base) := fun _ => ⟨rfl, rfl⟩
theorem Layout.aslZp (zp : Byte) : Layout.Statement (.aslZp zp) := fun _ => ⟨rfl, rfl⟩
theorem Layout.aslAcc : Layout.Statement .aslAcc := fun _ => ⟨rfl, rfl⟩
theorem Layout.aslAbs (addr : Word) : Layout.Statement (.aslAbs addr) := fun _ => ⟨rfl, rfl⟩
theorem Layout.aslZpX (zp : Byte) : Layout.Statement (.aslZpX zp) := fun _ => ⟨rfl, rfl⟩
theorem Layout.aslAbsX (base : Word) : Layout.Statement (.aslAbsX base) := fun _ => ⟨rfl, rfl⟩
theorem Layout.lsrZp (zp : Byte) : Layout.Statement (.lsrZp zp) := fun _ => ⟨rfl, rfl⟩
theorem Layout.lsrAcc : Layout.Statement .lsrAcc := fun _ => ⟨rfl, rfl⟩
theorem Layout.lsrAbs (addr : Word) : Layout.Statement (.lsrAbs addr) := fun _ => ⟨rfl, rfl⟩
theorem Layout.lsrZpX (zp : Byte) : Layout.Statement (.lsrZpX zp) := fun _ => ⟨rfl, rfl⟩
theorem Layout.lsrAbsX (base : Word) : Layout.Statement (.lsrAbsX base) := fun _ => ⟨rfl, rfl⟩
theorem Layout.rolZp (zp : Byte) : Layout.Statement (.rolZp zp) := fun _ => ⟨rfl, rfl⟩
theorem Layout.rolAcc : Layout.Statement .rolAcc := fun _ => ⟨rfl, rfl⟩
theorem Layout.rolAbs (addr : Word) : Layout.Statement (.rolAbs addr) := fun _ => ⟨rfl, rfl⟩
theorem Layout.rolZpX (zp : Byte) : Layout.Statement (.rolZpX zp) := fun _ => ⟨rfl, rfl⟩
theorem Layout.rolAbsX (base : Word) : Layout.Statement (.rolAbsX base) := fun _ => ⟨rfl, rfl⟩
theorem Layout.rorZp (zp : Byte) : Layout.Statement (.rorZp zp) := fun _ => ⟨rfl, rfl⟩
theorem Layout.rorAcc : Layout.Statement .rorAcc := fun _ => ⟨rfl, rfl⟩
theorem Layout.rorAbs (addr : Word) : Layout.Statement (.rorAbs addr) := fun _ => ⟨rfl, rfl⟩
theorem Layout.rorZpX (zp : Byte) : Layout.Statement (.rorZpX zp) := fun _ => ⟨rfl, rfl⟩
theorem Layout.rorAbsX (base : Word) : Layout.Statement (.rorAbsX base) := fun _ => ⟨rfl, rfl⟩
theorem Layout.incZp (zp : Byte) : Layout.Statement (.incZp zp) := fun _ => ⟨rfl, rfl⟩
theorem Layout.incAbs (addr : Word) : Layout.Statement (.incAbs addr) := fun _ => ⟨rfl, rfl⟩
theorem Layout.incZpX (zp : Byte) : Layout.Statement (.incZpX zp) := fun _ => ⟨rfl, rfl⟩
theorem Layout.incAbsX (base : Word) : Layout.Statement (.incAbsX base) := fun _ => ⟨rfl, rfl⟩
theorem Layout.decZp (zp : Byte) : Layout.Statement (.decZp zp) := fun _ => ⟨rfl, rfl⟩
theorem Layout.decAbs (addr : Word) : Layout.Statement (.decAbs addr) := fun _ => ⟨rfl, rfl⟩
theorem Layout.decZpX (zp : Byte) : Layout.Statement (.decZpX zp) := fun _ => ⟨rfl, rfl⟩
theorem Layout.decAbsX (base : Word) : Layout.Statement (.decAbsX base) := fun _ => ⟨rfl, rfl⟩
theorem Layout.inx : Layout.Statement .inx := fun _ => ⟨rfl, rfl⟩
theorem Layout.iny : Layout.Statement .iny := fun _ => ⟨rfl, rfl⟩
theorem Layout.dex : Layout.Statement .dex := fun _ => ⟨rfl, rfl⟩
theorem Layout.dey : Layout.Statement .dey := fun _ => ⟨rfl, rfl⟩
theorem Layout.cmpIndX (zp : Byte) : Layout.Statement (.cmpIndX zp) := fun _ => ⟨rfl, rfl⟩
theorem Layout.cmpZp (zp : Byte) : Layout.Statement (.cmpZp zp) := fun _ => ⟨rfl, rfl⟩
theorem Layout.cmpImm (imm : Byte) : Layout.Statement (.cmpImm imm) := fun _ => ⟨rfl, rfl⟩
theorem Layout.cmpAbs (addr : Word) : Layout.Statement (.cmpAbs addr) := fun _ => ⟨rfl, rfl⟩
theorem Layout.cmpIndY (zp : Byte) : Layout.Statement (.cmpIndY zp) := fun _ => ⟨rfl, rfl⟩
theorem Layout.cmpZpX (zp : Byte) : Layout.Statement (.cmpZpX zp) := fun _ => ⟨rfl, rfl⟩
theorem Layout.cmpAbsY (base : Word) : Layout.Statement (.cmpAbsY base) := fun _ => ⟨rfl, rfl⟩
theorem Layout.cmpAbsX (base : Word) : Layout.Statement (.cmpAbsX base) := fun _ => ⟨rfl, rfl⟩
theorem Layout.cpxImm (imm : Byte) : Layout.Statement (.cpxImm imm) := fun _ => ⟨rfl, rfl⟩
theorem Layout.cpxZp (zp : Byte) : Layout.Statement (.cpxZp zp) := fun _ => ⟨rfl, rfl⟩
theorem Layout.cpxAbs (addr : Word) : Layout.Statement (.cpxAbs addr) := fun _ => ⟨rfl, rfl⟩
theorem Layout.cpyImm (imm : Byte) : Layout.Statement (.cpyImm imm) := fun _ => ⟨rfl, rfl⟩
theorem Layout.cpyZp (zp : Byte) : Layout.Statement (.cpyZp zp) := fun _ => ⟨rfl, rfl⟩
theorem Layout.cpyAbs (addr : Word) : Layout.Statement (.cpyAbs addr) := fun _ => ⟨rfl, rfl⟩
theorem Layout.bitZp (zp : Byte) : Layout.Statement (.bitZp zp) := fun _ => ⟨rfl, rfl⟩
theorem Layout.bitAbs (addr : Word) : Layout.Statement (.bitAbs addr) := fun _ => ⟨rfl, rfl⟩
theorem Layout.bpl (off : Byte) : Layout.Statement (.bpl off) := fun _ => ⟨rfl, rfl⟩
theorem Layout.bmi (off : Byte) : Layout.Statement (.bmi off) := fun _ => ⟨rfl, rfl⟩
theorem Layout.bvc (off : Byte) : Layout.Statement (.bvc off) := fun _ => ⟨rfl, rfl⟩
theorem Layout.bvs (off : Byte) : Layout.Statement (.bvs off) := fun _ => ⟨rfl, rfl⟩
theorem Layout.bcc (off : Byte) : Layout.Statement (.bcc off) := fun _ => ⟨rfl, rfl⟩
theorem Layout.bcs (off : Byte) : Layout.Statement (.bcs off) := fun _ => ⟨rfl, rfl⟩
theorem Layout.bne (off : Byte) : Layout.Statement (.bne off) := fun _ => ⟨rfl, rfl⟩
theorem Layout.beq (off : Byte) : Layout.Statement (.beq off) := fun _ => ⟨rfl, rfl⟩
theorem Layout.pha : Layout.Statement .pha := fun _ => ⟨rfl, rfl⟩
theorem Layout.pla : Layout.Statement .pla := fun _ => ⟨rfl, rfl⟩
theorem Layout.php : Layout.Statement .php := fun _ => ⟨rfl, rfl⟩
theorem Layout.plp : Layout.Statement .plp := fun _ => ⟨rfl, rfl⟩
theorem Layout.jsrAbs (addr : Word) : Layout.Statement (.jsrAbs addr) := fun _ => ⟨rfl, rfl⟩
theorem Layout.rts : Layout.Statement .rts := fun _ => ⟨rfl, rfl⟩
theorem Layout.brk : Layout.Statement .brk := fun _ => ⟨rfl, rfl⟩
theorem Layout.rti : Layout.Statement .rti := fun _ => ⟨rfl, rfl⟩
theorem Layout.jmpAbs (addr : Word) : Layout.Statement (.jmpAbs addr) := fun _ => ⟨rfl, rfl⟩
theorem Layout.jmpInd (ptr : Word) : Layout.Statement (.jmpInd ptr) := fun _ => ⟨rfl, rfl⟩
theorem Layout.tax : Layout.Statement .tax := fun _ => ⟨rfl, rfl⟩
theorem Layout.txa : Layout.Statement .txa := fun _ => ⟨rfl, rfl⟩
theorem Layout.tay : Layout.Statement .tay := fun _ => ⟨rfl, rfl⟩
theorem Layout.tya : Layout.Statement .tya := fun _ => ⟨rfl, rfl⟩
theorem Layout.txs : Layout.Statement .txs := fun _ => ⟨rfl, rfl⟩
theorem Layout.tsx : Layout.Statement .tsx := fun _ => ⟨rfl, rfl⟩
theorem Layout.sec : Layout.Statement .sec := fun _ => ⟨rfl, rfl⟩
theorem Layout.clc : Layout.Statement .clc := fun _ => ⟨rfl, rfl⟩
theorem Layout.sei : Layout.Statement .sei := fun _ => ⟨rfl, rfl⟩
theorem Layout.cli : Layout.Statement .cli := fun _ => ⟨rfl, rfl⟩
theorem Layout.sed : Layout.Statement .sed := fun _ => ⟨rfl, rfl⟩
theorem Layout.cld : Layout.Statement .cld := fun _ => ⟨rfl, rfl⟩
theorem Layout.clv : Layout.Statement .clv := fun _ => ⟨rfl, rfl⟩
theorem Layout.nop : Layout.Statement .nop := fun _ => ⟨rfl, rfl⟩
theorem Layout.stop : Layout.Statement .stop := fun _ => ⟨rfl, rfl⟩

end Sys2Proof.Laws
end

