-- ==== Sys2Proof/Laws/Step.lean ====
section
/-! SUPPORT. What a step can do, said once: it is refused, idle, halts on an unknown opcode, or runs one
instruction; and the laws of reset. -/

namespace Sys2Proof.Machine

/-- The opcode fetch: the byte at PC, PC one further, its report and then the trace record (R60, R411). -/
theorem State.fetchOpcode_eq (s : State) :
    s.fetchOpcode =
      { value := s.peek s.pc
        state := { s with pc := s.pc + 1, events := s.events ++ s.opcodeEvents } } := by
  simp only [State.fetchOpcode, State.fetch8_eq]
  simp [State.emitTrace, State.emit, State.setPc, State.afterReads, State.opcodeEvents, State.traceRecord]

theorem stepWith_invalid {cfg : Config} (h : cfg.valid = false) (s : State) :
    stepWith cfg s = .refused .invalidConfig := by
  simp [stepWith, h]

theorem stepWith_halted {cfg : Config} (h : cfg.valid = true) {s : State} (hh : s.halted = true) :
    stepWith cfg s = .next s := by
  simp [stepWith, h, hh]

theorem stepWith_unknown {cfg : Config} (h : cfg.valid = true) {s : State} (hh : s.halted = false)
    (hd : cfg.decodeOpcode (s.peek s.pc) = none) :
    stepWith cfg s = .next (s.fetchOpcode.state.raiseUnknownOpcode (s.peek s.pc) s.pc) := by
  have hv : s.fetchOpcode.value = s.peek s.pc := by rw [State.fetchOpcode_eq]
  simp [stepWith, h, hh, hv, hd]

theorem stepWith_run {cfg : Config} (h : cfg.valid = true) {s : State} (hh : s.halted = false) {form : Form}
    (hd : cfg.decodeOpcode (s.peek s.pc) = some form) :
    stepWith cfg s =
      exec (fetchOperands form s.fetchOpcode.state).instr (fetchOperands form s.fetchOpcode.state).state := by
  have hv : s.fetchOpcode.value = s.peek s.pc := by rw [State.fetchOpcode_eq]
  simp [stepWith, h, hh, hv, hd]

/-- Every case of a step of a valid configuration. -/
theorem stepWith_cases {cfg : Config} (h : cfg.valid = true) (s : State) :
    (s.halted = true ∧ stepWith cfg s = .next s) ∨
    (s.halted = false ∧ cfg.decodeOpcode (s.peek s.pc) = none ∧
      stepWith cfg s = .next (s.fetchOpcode.state.raiseUnknownOpcode (s.peek s.pc) s.pc)) ∨
    (s.halted = false ∧ ∃ form, cfg.decodeOpcode (s.peek s.pc) = some form ∧
      stepWith cfg s =
        exec (fetchOperands form s.fetchOpcode.state).instr (fetchOperands form s.fetchOpcode.state).state) := by
  cases hh : s.halted with
  | true => exact .inl ⟨rfl, stepWith_halted h hh⟩
  | false =>
    cases hd : cfg.decodeOpcode (s.peek s.pc) with
    | none => exact .inr (.inl ⟨rfl, rfl, stepWith_unknown h hh hd⟩)
    | some form => exact .inr (.inr ⟨rfl, form, rfl, stepWith_run h hh hd⟩)

/-- Reading operand bytes changes PC and emits reports, nothing else (R124, R125). -/
theorem fetchOperands_state (form : Form) (s : State) :
    ∃ l w, (fetchOperands form s).state = (s.afterReads l).setPc w := by
  cases form with
  | bare i => exact ⟨[], s.pc, by simp [fetchOperands]; rfl⟩
  | padded i => exact ⟨[], s.pc, by simp [fetchOperands]; rfl⟩
  | byte f => exact ⟨[s.pc], s.pc + 1, by simp [fetchOperands, State.fetch8_eq]⟩
  | word f =>
    refine ⟨[s.pc, s.pc + 1], s.pc + 1 + 1, ?_⟩
    simp [fetchOperands, State.fetch8_eq, State.afterReads, State.setPc]

theorem reset_invalid {cfg : Config} (h : cfg.valid = false) (image : List Byte) :
    reset cfg image = .refused .invalidConfig := by
  simp [reset, h]

theorem reset_short {cfg : Config} (h : cfg.valid = true) {image : List Byte} (hl : image.length < imageMinSize) :
    reset cfg image = .fault (.imageSizeError image.length) := by
  simp [reset, h, hl]

theorem reset_long {cfg : Config} (h : cfg.valid = true) {image : List Byte} (hl : imageMinSize ≤ image.length) :
    reset cfg image = .next (State.initial cfg image).loadResetVector := by
  simp [reset, h, Nat.not_lt.mpr hl]

end Sys2Proof.Machine
end

