-- ==== Sys2Proof/Tests/Slice0.lean ====
section
/-! SUPPORT. Tests of the model: the check of WellFormed, words written out from the encodings of 30_encoding.md,
single steps against the vectors of 95_test_vectors.md (their expected values are the spec's), and for every
obligation with hypotheses a state and operands that meet them. -/

namespace Sys2Proof.Tests

open Sys2Proof Sys2Proof.Machine

/-! WellFormed: the one check an instruction needs, and terms it refuses. -/

/-- A core with LDA immediate left out of SUPPORTED. -/
def noLda : Config := { Config.default with leftOut := [0xA9] }

/-- A core whose stop opcode is 0xFF. -/
def stopFF : Config := { Config.default with stopOpcode := 0xFF }

/-- A core with BRK left out of SUPPORTED. -/
def noBrk : Config := { Config.default with leftOut := [0x00] }

/-- No configuration of the model: its stop opcode is LDA immediate. -/
def clashing : Config := { Config.default with stopOpcode := 0xA9 }

theorem test_wellFormed_default : (Instr.ldaImm 0xFF).wellFormed Config.default = true := by decide

theorem test_illFormed_leftOut : (Instr.ldaImm 0x05).wellFormed noLda = false := by decide

theorem test_leftOut_is_unknown : decode noLda [0xA9, 0x05] = .reject (.unknownOpcode 0xA9) := by decide

theorem test_config_clashing : clashing.valid = false := by decide

theorem test_truncated : decode Config.default [0xAD, 0x00] = .reject .truncated := by decide

/-! Decoding: at least one word per family, its bits as R150 and the operand bytes as R122 and R91 give them. -/

theorem test_decode_load : decode Config.default [0b10111110, 0x34, 0x12] = .ok (.ldxAbsY 0x1234) [] := by decide

theorem test_decode_store : decode Config.default [0b10010001, 0x20] = .ok (.staIndY 0x20) [] := by decide

theorem test_decode_arithmetic : decode Config.default [0b11100001, 0xFF] = .ok (.sbcIndX 0xFF) [] := by decide

theorem test_decode_logical : decode Config.default [0b00111001, 0xCD, 0xAB] = .ok (.andAbsY 0xABCD) [] := by decide

theorem test_decode_shift_acc : decode Config.default [0b01101010, 0x77] = .ok .rorAcc [0x77] := by decide

theorem test_decode_shift_mem : decode Config.default [0b00110110, 0x80] = .ok (.rolZpX 0x80) [] := by decide

theorem test_decode_incDec : decode Config.default [0b11011110, 0x01, 0x02] = .ok (.decAbsX 0x0201) [] := by decide

theorem test_decode_compare : decode Config.default [0b11000000, 0x10] = .ok (.cpyImm 0x10) [] := by decide

theorem test_decode_bit : decode Config.default [0b00101100, 0x00, 0x30] = .ok (.bitAbs 0x3000) [] := by decide

theorem test_decode_branch : decode Config.default [0b11010000, 0xFE] = .ok (.bne 0xFE) [] := by decide

theorem test_decode_stack : decode Config.default [0b00101000] = .ok .plp [] := by decide

theorem test_decode_call : decode Config.default [0b00100000, 0x00, 0x90] = .ok (.jsrAbs 0x9000) [] := by decide

theorem test_decode_jump : decode Config.default [0b01101100, 0xFF, 0x30] = .ok (.jmpInd 0x30FF) [] := by decide

theorem test_decode_brk : decode Config.default [0b00000000, 0xEA, 0x01] = .ok .brk [0x01] := by decide

theorem test_decode_transfer : decode Config.default [0b10011010] = .ok .txs [] := by decide

theorem test_decode_flag : decode Config.default [0b10111000] = .ok .clv [] := by decide

theorem test_decode_stop : decode stopFF [0b11111111] = .ok .stop [] := by decide

/-! The host's two entries: a table word is decoded, and is the first instruction after reset. -/

theorem test_tableWord_three : decodeTableWord 24 0x30FF6C = some (.jmpInd 0x30FF) := by decide

theorem test_tableWord_one : decodeTableWord 8 0xA9 = some (.ldaImm 0x00) := by decide

theorem test_tableWord_unknown : decodeTableWord 8 0xFF = none := by decide

/-! Single steps: the vectors of 95_test_vectors.md section 2 (and 1.7). -/

/-- The step's next state, but for the outputs, is `f` of the state before, and its reports are `reports`. -/
def after (s : State) (f : State → State) (reports : List Report) : Bool :=
  match step s with
  | .next t => { t with events := s.events } == f s && t.report == reports
  | .fault _ | .refused _ => false

theorem test_withFetchWord :
    after (State.reset.withFetchWord 16 0x80A9) (fun s =>
      { s with a := 0x80, pc := 0x0002, flags := { s.flags with n := true }, cycles := 2 }) [] = true := by
  decide

/-- R201: A9 80 from reset defaults. -/
theorem test_ldaImm :
    after { State.reset with pc := 0x8000, rom := [(0, 0xA9), (1, 0x80)] }
      (fun s => { s with a := 0x80, pc := 0x8002, flags := { s.flags with n := true }, cycles := 2 }) [] = true := by
  decide

/-- R201: B5 F0 from X=20, ram[010]=66. -/
theorem test_ldaZpX :
    after { State.reset with x := 0x20, pc := 0x8000, ram := [(16, 0x66)], rom := [(0, 0xB5), (1, 0xF0)] }
      (fun s => { s with a := 0x66, pc := 0x8002, cycles := 4 }) [] = true := by
  decide

/-- R201: BD FF 12 from X=01, ram[300]=9C. -/
theorem test_ldaAbsX :
    after { State.reset with
        x := 0x01, pc := 0x8000, ram := [(768, 0x9C)], rom := [(0, 0xBD), (1, 0xFF), (2, 0x12)] }
      (fun s => { s with a := 0x9C, pc := 0x8003, flags := { s.flags with n := true }, cycles := 5 }) [] = true := by
  decide

/-- R201: B9 FF FF from Y=01, ram[000]=42. -/
theorem test_ldaAbsY :
    after { State.reset with
        y := 0x01, pc := 0x8000, ram := [(0, 0x42)], rom := [(0, 0xB9), (1, 0xFF), (2, 0xFF)] }
      (fun s => { s with a := 0x42, pc := 0x8003, cycles := 5 }) [] = true := by
  decide

/-- R201: A1 FF from ram[0FF]=34, ram[000]=02, ram[234]=77. -/
theorem test_ldaIndX :
    after { State.reset with
        pc := 0x8000, ram := [(0, 0x02), (255, 0x34), (564, 0x77)], rom := [(0, 0xA1), (1, 0xFF)] }
      (fun s => { s with a := 0x77, pc := 0x8002, cycles := 6 }) [] = true := by
  decide

/-- R201: B1 20 from Y=10, ram[020]=F8, ram[021]=02, ram[308]=AB. -/
theorem test_ldaIndY :
    after { State.reset with
        y := 0x10, pc := 0x8000, ram := [(32, 0xF8), (33, 0x02), (776, 0xAB)],
        rom := [(0, 0xB1), (1, 0x20)] }
      (fun s => { s with a := 0xAB, pc := 0x8002, flags := { s.flags with n := true }, cycles := 6 }) [] = true := by
  decide

/-- R201: B1 20 from Y=07, ram[020]=F8, ram[021]=02, ram[2FF]=01. -/
theorem test_ldaIndY_more :
    after { State.reset with
        y := 0x07, pc := 0x8000, ram := [(32, 0xF8), (33, 0x02), (767, 0x01)],
        rom := [(0, 0xB1), (1, 0x20)] }
      (fun s => { s with a := 0x01, pc := 0x8002, cycles := 5 }) [] = true := by
  decide

/-- R201: AD 00 30 from reset defaults. -/
theorem test_ldaAbs :
    after { State.reset with pc := 0x8000, rom := [(0, 0xAD), (2, 0x30)] }
      (fun s => { s with pc := 0x8003, flags := { s.flags with z := true }, cycles := 4 })
      [.unmappedAccess 0x3000] = true := by
  decide

/-- R201: AD 00 08 from ram[000]=5A. -/
theorem test_ldaAbs_more :
    after { State.reset with pc := 0x8000, ram := [(0, 0x5A)], rom := [(0, 0xAD), (2, 0x08)] }
      (fun s => { s with a := 0x5A, pc := 0x8003, cycles := 4 }) [] = true := by
  decide

/-- R202: B6 FF from Y=02, ram[001]=80. -/
theorem test_ldxZpY :
    after { State.reset with y := 0x02, pc := 0x8000, ram := [(1, 0x80)], rom := [(0, 0xB6), (1, 0xFF)] }
      (fun s => { s with x := 0x80, pc := 0x8002, flags := { s.flags with n := true }, cycles := 4 }) [] = true := by
  decide

/-- R202: BE FF 80 from Y=01, rom[8100]=00. -/
theorem test_ldxAbsY :
    after { State.reset with y := 0x01, pc := 0x8000, rom := [(0, 0xBE), (1, 0xFF), (2, 0x80)] }
      (fun s => { s with pc := 0x8003, flags := { s.flags with z := true }, cycles := 5 }) [] = true := by
  decide

/-- R203: A0 7F from reset defaults. -/
theorem test_ldyImm :
    after { State.reset with pc := 0x8000, rom := [(0, 0xA0), (1, 0x7F)] }
      (fun s => { s with y := 0x7F, pc := 0x8002, cycles := 2 }) [] = true := by
  decide

/-- R203: BC 10 00 from X=05, Z=1, ram[015]=01. -/
theorem test_ldyAbsX :
    after { State.reset with
        x := 0x05, pc := 0x8000, flags := { State.reset.flags with z := true },
        ram := [(21, 0x01)], rom := [(0, 0xBC), (1, 0x10)] }
      (fun s => { s with y := 0x01, pc := 0x8003, flags := { s.flags with z := false }, cycles := 4 }) [] = true := by
  decide

/-- R204: 8D 00 82 from A=11. -/
theorem test_staAbs :
    after { State.reset with a := 0x11, pc := 0x8000, rom := [(0, 0x8D), (2, 0x82)] }
      (fun s => { s with pc := 0x8003, cycles := 4, ram := [(512, 0x11)] }) [] = true := by
  decide

/-- R204: 9D FF 12 from A=22, X=01. -/
theorem test_staAbsX :
    after { State.reset with a := 0x22, x := 0x01, pc := 0x8000, rom := [(0, 0x9D), (1, 0xFF), (2, 0x12)] }
      (fun s => { s with pc := 0x8003, cycles := 5, ram := [(768, 0x22)] }) [] = true := by
  decide

/-- R204: 91 20 from A=33, Y=10, ram[020]=F8, ram[021]=02. -/
theorem test_staIndY :
    after { State.reset with
        a := 0x33, y := 0x10, pc := 0x8000, ram := [(32, 0xF8), (33, 0x02)],
        rom := [(0, 0x91), (1, 0x20)] }
      (fun s => { s with pc := 0x8002, cycles := 6, ram := [(32, 0xF8), (33, 0x02), (776, 0x33)] }) [] = true := by
  decide

/-- R204: 85 10 from A=00, N=1, ram[010]=FF. -/
theorem test_staZp :
    after { State.reset with
        a := 0x00, pc := 0x8000, flags := { State.reset.flags with n := true },
        ram := [(16, 0xFF)], rom := [(0, 0x85), (1, 0x10)] }
      (fun s => { s with pc := 0x8002, cycles := 3, ram := [] }) [] = true := by
  decide

/-- R205: 96 FF from X=44, Y=02. -/
theorem test_stxZpY :
    after { State.reset with x := 0x44, y := 0x02, pc := 0x8000, rom := [(0, 0x96), (1, 0xFF)] }
      (fun s => { s with pc := 0x8002, cycles := 4, ram := [(1, 0x44)] }) [] = true := by
  decide

/-- R206: 8C 34 12 from Y=55. -/
theorem test_styAbs :
    after { State.reset with y := 0x55, pc := 0x8000, rom := [(0, 0x8C), (1, 0x34), (2, 0x12)] }
      (fun s => { s with pc := 0x8003, cycles := 4, ram := [(564, 0x55)] }) [] = true := by
  decide

/-- R223: 69 FF from A=80. -/
theorem test_adcImm :
    after { State.reset with a := 0x80, pc := 0x8000, rom := [(0, 0x69), (1, 0xFF)] }
      (fun s => { s with a := 0x7F, pc := 0x8002, flags := { s.flags with c := true, v := true }, cycles := 2 }) [] = true := by
  decide

/-- R223, R222: 69 01 from A=09, D=1. -/
theorem test_adcImm_more :
    after { State.reset with
        a := 0x09, pc := 0x8000, flags := { State.reset.flags with d := true },
        rom := [(0, 0x69), (1, 0x01)] }
      (fun s => { s with a := 0x0A, pc := 0x8002, cycles := 2 }) [] = true := by
  decide

/-- R224: E9 FF from A=7F, C=1. -/
theorem test_sbcImm :
    after { State.reset with
        a := 0x7F, pc := 0x8000, flags := { State.reset.flags with c := true },
        rom := [(0, 0xE9), (1, 0xFF)] }
      (fun s => { s with
        a := 0x80, pc := 0x8002, flags := { s.flags with c := false, v := true, n := true },
        cycles := 2 }) [] = true := by
  decide

/-- R224, R225: E9 20 from A=30, C=0. -/
theorem test_sbcImm_more :
    after { State.reset with
        a := 0x30, pc := 0x8000, flags := { State.reset.flags with c := false },
        rom := [(0, 0xE9), (1, 0x20)] }
      (fun s => { s with a := 0x0F, pc := 0x8002, flags := { s.flags with c := true }, cycles := 2 }) [] = true := by
  decide

/-- R223: 7D FF 80 from A=01, X=01, rom[8100]=02. -/
theorem test_adcAbsX :
    after { State.reset with
        a := 0x01, x := 0x01, pc := 0x8000, rom := [(0, 0x7D), (1, 0xFF), (2, 0x80), (256, 0x02)] }
      (fun s => { s with a := 0x03, pc := 0x8003, cycles := 5 }) [] = true := by
  decide

/-- R223: 6D 00 40 from A=01. -/
theorem test_adcAbs :
    after { State.reset with a := 0x01, pc := 0x8000, rom := [(0, 0x6D), (2, 0x40)] }
      (fun s => { s with pc := 0x8003, cycles := 4 })
      [.unmappedAccess 0x4000] = true := by
  decide

/-- R240: 29 0F from A=F0. -/
theorem test_andImm :
    after { State.reset with a := 0xF0, pc := 0x8000, rom := [(0, 0x29), (1, 0x0F)] }
      (fun s => { s with a := 0x00, pc := 0x8002, flags := { s.flags with z := true }, cycles := 2 }) [] = true := by
  decide

/-- R240: 2D 00 50 from A=FF. -/
theorem test_andAbs :
    after { State.reset with a := 0xFF, pc := 0x8000, rom := [(0, 0x2D), (2, 0x50)] }
      (fun s => { s with a := 0x00, pc := 0x8003, flags := { s.flags with z := true }, cycles := 4 })
      [.unmappedAccess 0x5000] = true := by
  decide

/-- R241: 09 81 from A=01. -/
theorem test_oraImm :
    after { State.reset with a := 0x01, pc := 0x8000, rom := [(0, 0x09), (1, 0x81)] }
      (fun s => { s with a := 0x81, pc := 0x8002, flags := { s.flags with n := true }, cycles := 2 }) [] = true := by
  decide

/-- R242: 49 FF from A=0F. -/
theorem test_eorImm :
    after { State.reset with a := 0x0F, pc := 0x8000, rom := [(0, 0x49), (1, 0xFF)] }
      (fun s => { s with a := 0xF0, pc := 0x8002, flags := { s.flags with n := true }, cycles := 2 }) [] = true := by
  decide

/-- R261: 0A from A=41, C=1. -/
theorem test_aslAcc :
    after { State.reset with
        a := 0x41, pc := 0x8000, flags := { State.reset.flags with c := true }, rom := [(0, 0x0A)] }
      (fun s => { s with a := 0x82, pc := 0x8001, flags := { s.flags with c := false, n := true }, cycles := 2 }) [] = true := by
  decide

/-- R262: 4A from A=01, N=1. -/
theorem test_lsrAcc :
    after { State.reset with
        a := 0x01, pc := 0x8000, flags := { State.reset.flags with n := true }, rom := [(0, 0x4A)] }
      (fun s => { s with
        a := 0x00, pc := 0x8001, flags := { s.flags with c := true, z := true, n := false },
        cycles := 2 }) [] = true := by
  decide

/-- R263: 2A from A=80, C=1. -/
theorem test_rolAcc :
    after { State.reset with
        a := 0x80, pc := 0x8000, flags := { State.reset.flags with c := true }, rom := [(0, 0x2A)] }
      (fun s => { s with a := 0x01, pc := 0x8001, cycles := 2 }) [] = true := by
  decide

/-- R264: 6A from A=01, C=1. -/
theorem test_rorAcc :
    after { State.reset with
        a := 0x01, pc := 0x8000, flags := { State.reset.flags with c := true }, rom := [(0, 0x6A)] }
      (fun s => { s with a := 0x80, pc := 0x8001, flags := { s.flags with n := true }, cycles := 2 }) [] = true := by
  decide

/-- R264: 66 10 from C=0, ram[010]=02. -/
theorem test_rorZp :
    after { State.reset with
        pc := 0x8000, flags := { State.reset.flags with c := false }, ram := [(16, 0x02)],
        rom := [(0, 0x66), (1, 0x10)] }
      (fun s => { s with pc := 0x8002, cycles := 5, ram := [(16, 0x01)] }) [] = true := by
  decide

/-- R261: 1E FF 12 from X=01, ram[300]=40. -/
theorem test_aslAbsX :
    after { State.reset with
        x := 0x01, pc := 0x8000, ram := [(768, 0x40)], rom := [(0, 0x1E), (1, 0xFF), (2, 0x12)] }
      (fun s => { s with pc := 0x8003, flags := { s.flags with n := true }, cycles := 7, ram := [(768, 0x80)] }) [] = true := by
  decide

/-- R261: 0E 00 80 from rom[8000]=0E. -/
theorem test_aslAbs :
    after { State.reset with pc := 0x8000, rom := [(0, 0x0E), (2, 0x80)] }
      (fun s => { s with pc := 0x8003, cycles := 6, ram := [(0, 0x1C)] }) [] = true := by
  decide

/-- R280: E6 10 from ram[010]=FF. -/
theorem test_incZp :
    after { State.reset with pc := 0x8000, ram := [(16, 0xFF)], rom := [(0, 0xE6), (1, 0x10)] }
      (fun s => { s with pc := 0x8002, flags := { s.flags with z := true }, cycles := 5, ram := [] }) [] = true := by
  decide

/-- R281: C6 10 from ram[010]=00. -/
theorem test_decZp :
    after { State.reset with pc := 0x8000, rom := [(0, 0xC6), (1, 0x10)] }
      (fun s => { s with pc := 0x8002, flags := { s.flags with n := true }, cycles := 5, ram := [(16, 0xFF)] }) [] = true := by
  decide

/-- R282: E8 from X=FF. -/
theorem test_inx :
    after { State.reset with x := 0xFF, pc := 0x8000, rom := [(0, 0xE8)] }
      (fun s => { s with x := 0x00, pc := 0x8001, flags := { s.flags with z := true }, cycles := 2 }) [] = true := by
  decide

/-- R283: C8 from Y=7F. -/
theorem test_iny :
    after { State.reset with y := 0x7F, pc := 0x8000, rom := [(0, 0xC8)] }
      (fun s => { s with y := 0x80, pc := 0x8001, flags := { s.flags with n := true }, cycles := 2 }) [] = true := by
  decide

/-- R284: CA from X=00. -/
theorem test_dex :
    after { State.reset with x := 0x00, pc := 0x8000, rom := [(0, 0xCA)] }
      (fun s => { s with x := 0xFF, pc := 0x8001, flags := { s.flags with n := true }, cycles := 2 }) [] = true := by
  decide

/-- R285: 88 from Y=01. -/
theorem test_dey :
    after { State.reset with y := 0x01, pc := 0x8000, rom := [(0, 0x88)] }
      (fun s => { s with y := 0x00, pc := 0x8001, flags := { s.flags with z := true }, cycles := 2 }) [] = true := by
  decide

/-- R280: EE 05 80 from reset defaults. -/
theorem test_incAbs :
    after { State.reset with pc := 0x8000, rom := [(0, 0xEE), (1, 0x05), (2, 0x80)] }
      (fun s => { s with pc := 0x8003, cycles := 6, ram := [(5, 0x01)] }) [] = true := by
  decide

/-- R280: FE FF 07 from X=01, ram[000]=0F. -/
theorem test_incAbsX :
    after { State.reset with
        x := 0x01, pc := 0x8000, ram := [(0, 0x0F)], rom := [(0, 0xFE), (1, 0xFF), (2, 0x07)] }
      (fun s => { s with pc := 0x8003, cycles := 7, ram := [(0, 0x10)] }) [] = true := by
  decide

/-- R301: C9 41 from A=40. -/
theorem test_cmpImm :
    after { State.reset with a := 0x40, pc := 0x8000, rom := [(0, 0xC9), (1, 0x41)] }
      (fun s => { s with pc := 0x8002, flags := { s.flags with n := true }, cycles := 2 }) [] = true := by
  decide

/-- R301: C9 00 from A=80. -/
theorem test_cmpImm_more :
    after { State.reset with a := 0x80, pc := 0x8000, rom := [(0, 0xC9)] }
      (fun s => { s with pc := 0x8002, flags := { s.flags with c := true, n := true }, cycles := 2 }) [] = true := by
  decide

/-- R302: E0 FF from X=FF. -/
theorem test_cpxImm :
    after { State.reset with x := 0xFF, pc := 0x8000, rom := [(0, 0xE0), (1, 0xFF)] }
      (fun s => { s with pc := 0x8002, flags := { s.flags with c := true, z := true }, cycles := 2 }) [] = true := by
  decide

/-- R303: C0 10 from Y=00. -/
theorem test_cpyImm :
    after { State.reset with y := 0x00, pc := 0x8000, rom := [(0, 0xC0), (1, 0x10)] }
      (fun s => { s with pc := 0x8002, flags := { s.flags with n := true }, cycles := 2 }) [] = true := by
  decide

/-- R304: 24 10 from A=01, ram[010]=C0. -/
theorem test_bitZp :
    after { State.reset with a := 0x01, pc := 0x8000, ram := [(16, 0xC0)], rom := [(0, 0x24), (1, 0x10)] }
      (fun s => { s with pc := 0x8002, flags := { s.flags with z := true, v := true, n := true }, cycles := 3 }) [] = true := by
  decide

/-- R304: 2C 00 30 from A=FF, N=1, V=1. -/
theorem test_bitAbs :
    after { State.reset with
        a := 0xFF, pc := 0x8000, flags := { State.reset.flags with v := true, n := true },
        rom := [(0, 0x2C), (2, 0x30)] }
      (fun s => { s with pc := 0x8003, flags := { s.flags with z := true, v := false, n := false }, cycles := 4 })
      [.unmappedAccess 0x3000] = true := by
  decide

/-- R328: F0 20 from Z=1. -/
theorem test_beq :
    after { State.reset with
        pc := 0x80F0, flags := { State.reset.flags with z := true },
        rom := [(240, 0xF0), (241, 0x20)] }
      (fun s => { s with pc := 0x8112, cycles := 4 }) [] = true := by
  decide

/-- R328: F0 20 from Z=0. -/
theorem test_beq_more :
    after { State.reset with
        pc := 0x80F0, flags := { State.reset.flags with z := false },
        rom := [(240, 0xF0), (241, 0x20)] }
      (fun s => { s with pc := 0x80F2, cycles := 2 }) [] = true := by
  decide

/-- R322: 30 80 from N=1. -/
theorem test_bmi :
    after { State.reset with
        pc := 0x8090, flags := { State.reset.flags with n := true },
        rom := [(144, 0x30), (145, 0x80)] }
      (fun s => { s with pc := 0x8012, cycles := 3 }) [] = true := by
  decide

/-- R322: 30 80 from N=1. -/
theorem test_bmi_more :
    after { State.reset with
        pc := 0x8100, flags := { State.reset.flags with n := true },
        rom := [(256, 0x30), (257, 0x80)] }
      (fun s => { s with pc := 0x8082, cycles := 4 }) [] = true := by
  decide

/-- R326: B0 7F from C=1. -/
theorem test_bcs :
    after { State.reset with
        pc := 0x8000, flags := { State.reset.flags with c := true }, rom := [(0, 0xB0), (1, 0x7F)] }
      (fun s => { s with pc := 0x8081, cycles := 3 }) [] = true := by
  decide

/-- R327: D0 FC from Z=0. -/
theorem test_bne :
    after { State.reset with
        pc := 0x8010, flags := { State.reset.flags with z := false },
        rom := [(16, 0xD0), (17, 0xFC)] }
      (fun s => { s with pc := 0x800E, cycles := 3 }) [] = true := by
  decide

/-- R327: D0 FE from Z=0. -/
theorem test_bne_more :
    after { State.reset with
        pc := 0x80FE, flags := { State.reset.flags with z := false },
        rom := [(254, 0xD0), (255, 0xFE)] }
      (fun s => { s with pc := 0x80FE, cycles := 4 }) [] = true := by
  decide

/-- R325: 90 05 from C=0. -/
theorem test_bcc :
    after { State.reset with
        pc := 0x8000, flags := { State.reset.flags with c := false },
        rom := [(0, 0x90), (1, 0x05)] }
      (fun s => { s with pc := 0x8007, cycles := 3 }) [] = true := by
  decide

/-- R323: 50 02 from V=1. -/
theorem test_bvc :
    after { State.reset with
        pc := 0x8000, flags := { State.reset.flags with v := true }, rom := [(0, 0x50), (1, 0x02)] }
      (fun s => { s with pc := 0x8002, cycles := 2 }) [] = true := by
  decide

/-- R324: 70 02 from V=1. -/
theorem test_bvs :
    after { State.reset with
        pc := 0x8000, flags := { State.reset.flags with v := true }, rom := [(0, 0x70), (1, 0x02)] }
      (fun s => { s with pc := 0x8004, cycles := 3 }) [] = true := by
  decide

/-- R321: 10 FE from N=0. -/
theorem test_bpl :
    after { State.reset with
        pc := 0x8000, flags := { State.reset.flags with n := false },
        rom := [(0, 0x10), (1, 0xFE)] }
      (fun s => { s with pc := 0x8000, cycles := 3 }) [] = true := by
  decide

/-- R342: 48 from A=AA, SP=00. -/
theorem test_pha :
    after { State.reset with a := 0xAA, sp := 0x00, pc := 0x8000, rom := [(0, 0x48)] }
      (fun s => { s with sp := 0xFF, pc := 0x8001, cycles := 3, ram := [(256, 0xAA)] }) [] = true := by
  decide

/-- R343: 68 from SP=FF, ram[100]=80. -/
theorem test_pla :
    after { State.reset with sp := 0xFF, pc := 0x8000, ram := [(256, 0x80)], rom := [(0, 0x68)] }
      (fun s => { s with a := 0x80, sp := 0x00, pc := 0x8001, flags := { s.flags with n := true }, cycles := 4 }) [] = true := by
  decide

/-- R344: 08 from N=1, V=1, D=1, Z=1, C=1. -/
theorem test_php :
    after { State.reset with
        pc := 0x8000,
        flags := { State.reset.flags with c := true, z := true, d := true, v := true, n := true },
        rom := [(0, 0x08)] }
      (fun s => { s with sp := 0xFC, pc := 0x8001, cycles := 3, ram := [(509, 0xFF)] }) [] = true := by
  decide

/-- R345: 28 from SP=FC, N=1, Z=1, C=1, ram[1FD]=00. -/
theorem test_plp :
    after { State.reset with
        sp := 0xFC, pc := 0x8000,
        flags := { State.reset.flags with c := true, z := true, n := true }, rom := [(0, 0x28)] }
      (fun s => { s with
        sp := 0xFD, pc := 0x8001,
        flags := { s.flags with c := false, z := false, i := false, n := false }, cycles := 4 }) [] = true := by
  decide

/-- R366: 4C 00 90 from reset defaults. -/
theorem test_jmpAbs :
    after { State.reset with pc := 0x8000, rom := [(0, 0x4C), (2, 0x90)] }
      (fun s => { s with pc := 0x9000, cycles := 3 }) [] = true := by
  decide

/-- R367: 6C FF 02 from ram[2FF]=34, ram[200]=12, ram[300]=56. -/
theorem test_jmpInd :
    after { State.reset with
        pc := 0x8000, ram := [(512, 0x12), (767, 0x34), (768, 0x56)],
        rom := [(0, 0x6C), (1, 0xFF), (2, 0x02)] }
      (fun s => { s with pc := 0x1234, cycles := 5 }) [] = true := by
  decide

/-- R367: 6C FF 30 from reset defaults. -/
theorem test_jmpInd_more :
    after { State.reset with pc := 0x8000, rom := [(0, 0x6C), (1, 0xFF), (2, 0x30)] }
      (fun s => { s with pc := 0x0000, cycles := 5 })
      [.unmappedAccess 0x30FF, .unmappedAccess 0x3000] = true := by
  decide

/-- R360: 20 00 90 from reset defaults. -/
theorem test_jsrAbs :
    after { State.reset with pc := 0x8000, rom := [(0, 0x20), (2, 0x90)] }
      (fun s => { s with sp := 0xFB, pc := 0x9000, cycles := 6, ram := [(508, 0x02), (509, 0x80)] }) [] = true := by
  decide

/-- R361: 60 from SP=FB, ram[1FC]=FF, ram[1FD]=80. -/
theorem test_rts :
    after { State.reset with sp := 0xFB, pc := 0x8000, ram := [(508, 0xFF), (509, 0x80)], rom := [(0, 0x60)] }
      (fun s => { s with sp := 0xFD, pc := 0x8100, cycles := 6 }) [] = true := by
  decide

/-- R364: 00 EA from I=0, N=1, C=1. -/
theorem test_brk :
    after { State.reset with
        pc := 0x8000, flags := { State.reset.flags with c := true, i := false, n := true },
        rom := [(1, 0xEA), (32767, 0x90)] }
      (fun s => { s with
        sp := 0xFA, pc := 0x9000, flags := { s.flags with i := true }, cycles := 7,
        ram := [(507, 0xB1), (508, 0x02), (509, 0x80)] }) [] = true := by
  decide

/-- R365: 40 from SP=FA, ram[1FB]=C3, ram[1FC]=07, ram[1FD]=80. -/
theorem test_rti :
    after { State.reset with
        sp := 0xFA, pc := 0x8000, ram := [(507, 0xC3), (508, 0x07), (509, 0x80)],
        rom := [(0, 0x40)] }
      (fun s => { s with
        sp := 0xFD, pc := 0x8007,
        flags := { s.flags with c := true, z := true, i := false, v := true, n := true },
        cycles := 6 }) [] = true := by
  decide

/-- R380: AA from A=00. -/
theorem test_tax :
    after { State.reset with a := 0x00, pc := 0x8000, rom := [(0, 0xAA)] }
      (fun s => { s with pc := 0x8001, flags := { s.flags with z := true }, cycles := 2 }) [] = true := by
  decide

/-- R382: A8 from A=80. -/
theorem test_tay :
    after { State.reset with a := 0x80, pc := 0x8000, rom := [(0, 0xA8)] }
      (fun s => { s with y := 0x80, pc := 0x8001, flags := { s.flags with n := true }, cycles := 2 }) [] = true := by
  decide

/-- R381: 8A from X=01, A=80, N=1. -/
theorem test_txa :
    after { State.reset with
        a := 0x80, x := 0x01, pc := 0x8000, flags := { State.reset.flags with n := true },
        rom := [(0, 0x8A)] }
      (fun s => { s with a := 0x01, pc := 0x8001, flags := { s.flags with n := false }, cycles := 2 }) [] = true := by
  decide

/-- R383: 98 from Y=00, A=05. -/
theorem test_tya :
    after { State.reset with a := 0x05, y := 0x00, pc := 0x8000, rom := [(0, 0x98)] }
      (fun s => { s with a := 0x00, pc := 0x8001, flags := { s.flags with z := true }, cycles := 2 }) [] = true := by
  decide

/-- R385: BA from SP=FD. -/
theorem test_tsx :
    after { State.reset with sp := 0xFD, pc := 0x8000, rom := [(0, 0xBA)] }
      (fun s => { s with x := 0xFD, pc := 0x8001, flags := { s.flags with n := true }, cycles := 2 }) [] = true := by
  decide

/-- R384: 9A from X=00. -/
theorem test_txs :
    after { State.reset with x := 0x00, pc := 0x8000, rom := [(0, 0x9A)] }
      (fun s => { s with sp := 0x00, pc := 0x8001, cycles := 2 }) [] = true := by
  decide

/-- R387: 18 from C=1. -/
theorem test_clc :
    after { State.reset with pc := 0x8000, flags := { State.reset.flags with c := true }, rom := [(0, 0x18)] }
      (fun s => { s with pc := 0x8001, flags := { s.flags with c := false }, cycles := 2 }) [] = true := by
  decide

/-- R386: 38 from reset defaults. -/
theorem test_sec :
    after { State.reset with pc := 0x8000, rom := [(0, 0x38)] }
      (fun s => { s with pc := 0x8001, flags := { s.flags with c := true }, cycles := 2 }) [] = true := by
  decide

/-- R389: 58 from reset defaults. -/
theorem test_cli :
    after { State.reset with pc := 0x8000, rom := [(0, 0x58)] }
      (fun s => { s with pc := 0x8001, flags := { s.flags with i := false }, cycles := 2 }) [] = true := by
  decide

/-- R388: 78 from I=0. -/
theorem test_sei :
    after { State.reset with pc := 0x8000, flags := { State.reset.flags with i := false }, rom := [(0, 0x78)] }
      (fun s => { s with pc := 0x8001, flags := { s.flags with i := true }, cycles := 2 }) [] = true := by
  decide

/-- R391: D8 from D=1. -/
theorem test_cld :
    after { State.reset with pc := 0x8000, flags := { State.reset.flags with d := true }, rom := [(0, 0xD8)] }
      (fun s => { s with pc := 0x8001, flags := { s.flags with d := false }, cycles := 2 }) [] = true := by
  decide

/-- R390: F8 from reset defaults. -/
theorem test_sed :
    after { State.reset with pc := 0x8000, rom := [(0, 0xF8)] }
      (fun s => { s with pc := 0x8001, flags := { s.flags with d := true }, cycles := 2 }) [] = true := by
  decide

/-- R392: B8 from V=1. -/
theorem test_clv :
    after { State.reset with pc := 0x8000, flags := { State.reset.flags with v := true }, rom := [(0, 0xB8)] }
      (fun s => { s with pc := 0x8001, flags := { s.flags with v := false }, cycles := 2 }) [] = true := by
  decide

/-- R393: EA from reset defaults. -/
theorem test_nop :
    after { State.reset with pc := 0x8000, rom := [(0, 0xEA)] }
      (fun s => { s with pc := 0x8001, cycles := 2 }) [] = true := by
  decide

/-- R394: 02 from A=01. -/
theorem test_stop :
    after { State.reset with a := 0x01, pc := 0x8000, rom := [(0, 0x02)] }
      (fun s => { s with pc := 0x8001, halted := true }) [] = true := by
  decide

/-- R395: FF from A=01. -/
theorem test_unknown :
    after { State.reset with a := 0x01, pc := 0x8000, rom := [(0, 0xFF)] }
      (fun s => { s with pc := 0x8001, halted := true })
      [.unknownOpcode 0xFF 0x8000] = true := by
  decide +kernel

/-- R395: 80 from reset defaults. -/
theorem test_unknown_more :
    after { State.reset with pc := 0x8000, rom := [(0, 0x80)] }
      (fun s => { s with pc := 0x8001, halted := true })
      [.unknownOpcode 0x80 0x8000] = true := by
  decide +kernel

/-! Witnesses: for every obligation with hypotheses, a state and operands that meet all of them. -/

/-- A state with the given bytes in ROM from 0x8000 on, PC there. -/
def romState (bytes : List Byte) : State :=
  { State.reset with pc := 0x8000, rom := Memory.ofBytes 0 bytes }

/-- A configuration, a state and its next state: the hypotheses of the statements about a step. -/
def Steps (cfg : Config) (s : State) : Prop :=
  cfg.valid = true ∧ s.wf = true ∧ ∃ t, stepWith cfg s = .next t

theorem witness_DecodeOfEncode :
    Config.default.valid = true ∧ (Instr.jmpInd 0xFFFF).wellFormed Config.default = true ∧
    stopFF.valid = true ∧ Instr.stop.wellFormed stopFF = true ∧ Instr.brk.wellFormed stopFF = true := by
  decide

theorem witness_EncodeOfDecode :
    Config.default.valid = true ∧ decode Config.default [0x6C, 0xFF, 0xFF, 0x01] = .ok (.jmpInd 0xFFFF) [0x01] ∧
    decode Config.default [0x00] = .ok .brk [] ∧ decode Config.default [0x00, 0xEA, 0x01] = .ok .brk [0x01] := by
  decide

theorem witness_UnassignedBytesHalt :
    Config.default.valid = true ∧ (0xFF : Byte) ∈ unassignedBytes ∧ (0xFF : Byte) ≠ Config.default.stopOpcode ∧
    (romState [0xFF]).halted = false ∧ (romState [0xFF]).peek (romState [0xFF]).pc = 0xFF ∧
    stopFF.valid = true ∧ (0x02 : Byte) ∈ unassignedBytes ∧ (0x02 : Byte) ≠ stopFF.stopOpcode ∧
    (romState [0x02]).peek (romState [0x02]).pc = 0x02 := by
  decide

theorem witness_SupportedOpcodesDecode :
    noLda.valid = true ∧ noLda.supports 0xA9 = false ∧ (0xA9 : Byte) ∈ noLda.leftOut ∧
    (romState [0xA9]).halted = false ∧ (romState [0xA9]).peek (romState [0xA9]).pc = 0xA9 ∧
    noLda.supports 0x00 = true ∧ (0x00 : Byte) ≠ noLda.stopOpcode ∧
    noLda.supports 0x02 = true ∧ (0x02 : Byte) = noLda.stopOpcode ∧
    ({ noLda with leftOut := [] } : Config).supports 0x00 = true := by
  decide

theorem witness_StopOpcodeIsUnassigned : documented clashing.stopOpcode = true := by decide

/-- At the top of the address space the operand bytes come from 0x0000 and 0x0001. -/
def wrapState : State :=
  { State.reset with pc := 0xFFFF, rom := [(32767, 0x4C)], ram := [(0, 0x34), (1, 0x12)] }

theorem witness_StepRunsDecoded :
    Config.default.valid = true ∧ wrapState.halted = false ∧
    decode Config.default
        [wrapState.peek wrapState.pc, wrapState.peek (wrapState.pc + 1), wrapState.peek (wrapState.pc + 2)] =
      .ok (.jmpAbs 0x1234) [] ∧
    decode Config.default
        [State.reset.peek State.reset.pc, State.reset.peek (State.reset.pc + 1),
          State.reset.peek (State.reset.pc + 2)] = .ok .brk [0x00] := by
  decide

theorem witness_HaltedStepIsIdle :
    Config.default.valid = true ∧ ({ State.reset with halted := true } : State).halted = true := by
  decide

theorem witness_UnknownOpcodeHalts :
    Config.default.valid = true ∧ (romState [0xFF]).halted = false ∧
    Config.default.supports ((romState [0xFF]).peek (romState [0xFF]).pc) = false ∧
    noBrk.valid = true ∧ ({ State.reset with pc := 0x7FFF } : State).halted = false ∧
    noBrk.supports (({ State.reset with pc := 0x7FFF } : State).peek 0x7FFF) = false ∧
    accessReport 0x7FFF = [.report (.unmappedAccess 0x7FFF)] := by
  decide

theorem witness_StepAlwaysAnswers : Config.default.valid = true ∧ stopFF.valid = true := by decide

/-- A store, a halted state, an unknown opcode and a fetch from the unmapped region: hypotheses of O11, O15. -/
theorem witness_StepKeepsWf :
    Steps Config.default { romState [0x8D, 0x00, 0x82] with a := 0x11 } ∧
    Steps Config.default { State.reset with halted := true } ∧
    Steps Config.default (romState [0xFF]) ∧
    Steps noBrk { State.reset with pc := 0x2000 } := by
  refine ⟨⟨by decide, by decide, _, rfl⟩, ⟨by decide, by decide, _, rfl⟩, ⟨by decide, by decide, _, rfl⟩,
    ⟨by decide, by decide, _, rfl⟩⟩

/-- A successful reset: the image has exactly the least length. -/
theorem witness_LoadedStateIsWf : ∃ t, reset Config.default (List.replicate 32784 0x00) = .next t :=
  ⟨_, reset_long (by decide) (by rw [List.length_replicate]; decide)⟩

/-- The running steps: onto STOP, onto an unknown opcode, onto neither; and a halted one. -/
theorem witness_HaltedExactlyByStopOrUnknown :
    (romState [0x02]).halted = false ∧ (romState [0x02]).peek (romState [0x02]).pc = Config.default.stopOpcode ∧
    Steps Config.default (romState [0x02]) ∧
    (romState [0xFF]).halted = false ∧ Config.default.supports ((romState [0xFF]).peek 0x8000) = false ∧
    Steps Config.default (romState [0xFF]) ∧
    (romState [0xEA]).halted = false ∧ Steps Config.default (romState [0xEA]) ∧
    Steps Config.default { State.reset with halted := true } := by
  refine ⟨by decide, by decide, ⟨by decide, by decide, _, rfl⟩, by decide, by decide,
    ⟨by decide, by decide, _, rfl⟩, by decide, ⟨by decide, by decide, _, rfl⟩, ⟨by decide, by decide, _, rfl⟩⟩

theorem witness_StepOnlyAppends : Steps Config.default (romState [0xAD, 0x00, 0x30]) :=
  ⟨by decide, by decide, _, rfl⟩

theorem witness_TraceRecordPerFetch :
    (romState [0x02]).halted = false ∧ Steps Config.default (romState [0x02]) ∧
    (romState [0xFF]).halted = false ∧ Steps Config.default (romState [0xFF]) := by
  refine ⟨by decide, ⟨by decide, by decide, _, rfl⟩, by decide, ⟨by decide, by decide, _, rfl⟩⟩

/-- Two states that differ in everything the statement hides. -/
theorem witness_StepIgnoresOutputs :
    romState [0xE8] ≠ { romState [0xE8] with cycles := 5, header := [], events := [.report (.unmappedAccess 0x3000)] } ∧
    (romState [0xE8]).visible =
      ({ romState [0xE8] with cycles := 5, header := [], events := [.report (.unmappedAccess 0x3000)] } : State).visible ∧
    (∃ t, stepWith Config.default (romState [0xE8]) = .next t) ∧
    (∃ t, stepWith Config.default
      { romState [0xE8] with cycles := 5, header := [], events := [.report (.unmappedAccess 0x3000)] } = .next t) :=
  ⟨by decide, by decide, ⟨_, rfl⟩, ⟨_, rfl⟩⟩

/-- The boundary lengths of an image: 32783 fails, 32784 and 32785 load. -/
theorem witness_ImageLoading :
    Config.default.valid = true ∧
    (List.replicate 32783 (0x00 : Byte)).length < 32784 ∧ 32784 ≤ (List.replicate 32784 (0x00 : Byte)).length ∧
    32784 ≤ (List.replicate 32785 (0x00 : Byte)).length := by
  simp only [List.length_replicate]
  decide

theorem witness_ResetLoadsParametersAndVector :
    stopFF.valid = true ∧ 32784 ≤ (List.replicate 32784 (0xFF : Byte)).length := by
  rw [List.length_replicate]
  decide

/-- The four boundaries of the map, each read on its own side (no hypotheses: the clauses are an if and else). -/
theorem test_map_boundaries :
    let s : State := { State.reset with ram := [(0x7FF, 0x22)], rom := [(0, 0x33)] }
    (s.memRead 0x1FFF).value = 0x22 ∧ (s.memRead 0x2000).value = 0x00 ∧ (s.memRead 0x7FFF).value = 0x00 ∧
    (s.memRead 0x8000).value = 0x33 ∧ (s.memRead 0x1FFF).state = s ∧
    (s.memRead 0x2000).state.report = [.unmappedAccess 0x2000] ∧
    (s.memRead 0x7FFF).state.report = [.unmappedAccess 0x7FFF] ∧ (s.memRead 0x8000).state = s := by
  decide

theorem witness_ReadAfterWrite :
    ({ State.reset with ram := [(0, 0x11), (0x7FF, 0x22)] } : State).wf = true := by
  decide

/-- 0xFFFF and 0x1FFF name the cell 0x7FF: a store to ROM's top is read in the RAM mirror and not in ROM (R86). -/
theorem test_write_lands_in_mirror :
    let s : State := { State.reset with rom := [(32767, 0x9B)] }
    (s.memWrite 0xFFFF 0x9A).peek 0x1FFF = 0x9A ∧ (s.memWrite 0xFFFF 0x9A).peek 0xFFFF = 0x9B := by
  decide

theorem witness_EqualContentsEqualMemories :
    Memory.wf 2048 [(0, 0x11), (2047, 0x22)] = true ∧ Memory.wf 2048 [(0, 0x00)] = false ∧
    Memory.wf 2048 [(2048, 0x11)] = false ∧ Memory.wf 2048 [(5, 0x11), (5, 0x11)] = false ∧
    ∀ k, Memory.read [(0, 0x11), (2047, 0x22)] k = Memory.read [(0, 0x11), (2047, 0x22)] k :=
  ⟨by decide, by decide, by decide, by decide, fun _ => rfl⟩

theorem witness_DecimalFlagIsIgnored :
    (Instr.adcImm 0x01).mnemonic = .adc ∧ (∃ t, exec (.adcImm 0x01) State.reset = .next t) ∧
    (Instr.sbcIndY 0xFF).mnemonic = .sbc ∧ (∃ t, exec (.sbcIndY 0xFF) State.reset = .next t) :=
  ⟨rfl, ⟨_, exec_adcImm _ _⟩, rfl, ⟨_, exec_sbcIndY _ _⟩⟩

/-- The instructions that the statements O33 to O41 name by their mnemonic. -/
theorem witness_mnemonics :
    (Instr.ldaIndY 0xFF).mnemonic = .lda ∧ (Instr.ldxZpY 0xFF).mnemonic = .ldx ∧
    (Instr.ldyAbsX 0xFFFF).mnemonic = .ldy ∧ (Instr.staIndY 0xFF).mnemonic = .sta ∧
    (Instr.stxZpY 0xFF).mnemonic = .stx ∧ (Instr.styAbs 0xFFFF).mnemonic = .sty ∧
    (Instr.adcAbsX 0xFFFF).mnemonic = .adc ∧ (Instr.sbcImm 0xFF).mnemonic = .sbc ∧
    (Instr.andZp 0xFF).mnemonic = .and ∧ (Instr.oraIndX 0xFF).mnemonic = .ora ∧
    (Instr.eorAbsY 0xFFFF).mnemonic = .eor ∧ (Instr.incAbsX 0xFFFF).mnemonic = .inc ∧
    (Instr.decZpX 0xFF).mnemonic = .dec ∧ (Instr.cmpIndX 0xFF).mnemonic = .cmp ∧
    (Instr.cpxAbs 0xFFFF).mnemonic = .cpx ∧ (Instr.cpyZp 0xFF).mnemonic = .cpy ∧
    (Instr.bitAbs 0xFFFF).mnemonic = .bit := by
  decide

/-- Both disjuncts of O37: the accumulator form and a memory form of each shift. -/
theorem witness_ShiftInstructions :
    ∀ i ∈ [Instr.aslAcc, .lsrAcc, .rolAcc, .rorAcc, .aslZp 0xFF, .lsrAbs 0xFFFF, .rolAbsX 0x1FFF, .rorZpX 0x80],
      [Mnemonic.asl, .lsr, .rol, .ror].contains i.mnemonic = true := by
  decide

/-- The list of O42 at State.reset: a branch that is taken and one that is not. -/
theorem witness_BranchInstructions :
    let f := State.reset.flags
    let list := [(Instr.bpl 0x80, !f.n), (.bmi 0x80, f.n), (.bvc 0x80, !f.v), (.bvs 0x80, f.v), (.bcc 0x80, !f.c),
      (.bcs 0x80, f.c), (.bne 0x80, !f.z), (.beq 0x80, f.z)]
    (Instr.bpl 0x80, true) ∈ list ∧ (Instr.beq 0x80, false) ∈ list := by
  decide

theorem witness_StackRoundTrip :
    ({ State.reset with sp := 0x00 } : State).wf = true ∧ ([] : List Byte).length ≤ 256 ∧
    (List.replicate 256 (0x55 : Byte)).length ≤ 256 ∧ (List.replicate 256 (0x55 : Byte)).length = 256 := by
  simp only [List.length_replicate]
  decide

theorem witness_CallAndReturn :
    (romState [0x20]).pc = (0x7FFD : Word) + 3 ∧
    ({ State.reset with pc := 0x0000 } : State).pc = (0xFFFD : Word) + 3 := by
  decide

/-- SP at 0x00: the low byte of the return address goes to 0x01FF. -/
theorem witness_ReturnComesBackAfterCall :
    ∃ t u : State, ({ State.reset with sp := 0x00, pc := 0x8003 } : State).wf = true ∧
      ({ State.reset with sp := 0x00, pc := 0x8003 } : State).pc = (0x8000 : Word) + 3 ∧
      exec (.jsrAbs 0x9000) { State.reset with sp := 0x00, pc := 0x8003 } = .next t ∧ u.sp = t.sp ∧
      u.peek (stackAddr 0x00) = t.peek (stackAddr 0x00) ∧
      u.peek (stackAddr (0x00 - 1)) = t.peek (stackAddr (0x00 - 1)) :=
  ⟨_, _, by decide, by decide, rfl, rfl, rfl, rfl⟩

theorem witness_BreakTrap :
    ({ State.reset with pc := 0x8001 } : State).pc = (0x8000 : Word) + 1 ∧
    ({ State.reset with pc := 0x0000 } : State).pc = (0xFFFF : Word) + 1 := by
  decide

/-- SP at 0x01: the frame of the BRK wraps in the stack page. -/
theorem witness_ReturnFromInterrupt :
    ∃ t u : State, ({ State.reset with sp := 0x01, pc := 0x8001 } : State).wf = true ∧
      ({ State.reset with sp := 0x01, pc := 0x8001 } : State).pc = (0x8000 : Word) + 1 ∧
      exec .brk { State.reset with sp := 0x01, pc := 0x8001 } = .next t ∧ u.sp = t.sp ∧
      ∀ k ∈ [stackAddr 0x01, stackAddr (0x01 - 1), stackAddr (0x01 - 2)], u.peek k = t.peek k :=
  ⟨_, _, by decide, by decide, execBrk_eq _, rfl, fun _ _ => rfl⟩

/-- A pointer inside a page, at a page's end, and at the end of the address space. -/
theorem witness_JumpInstructions :
    (0x02FF : Word).toNat = (0x02FE : Word).toNat / 256 * 256 + ((0x02FE : Word).toNat % 256 + 1) % 256 ∧
    (0x3000 : Word).toNat = (0x30FF : Word).toNat / 256 * 256 + ((0x30FF : Word).toNat % 256 + 1) % 256 ∧
    (0xFF00 : Word).toNat = (0xFFFF : Word).toNat / 256 * 256 + ((0xFFFF : Word).toNat % 256 + 1) % 256 := by
  decide

theorem witness_NopAndStop :
    Config.default.valid = true ∧ (romState [0x02]).halted = false ∧
    (romState [0x02]).peek (romState [0x02]).pc = Config.default.stopOpcode ∧
    Config.default.supports ((romState [0x02]).peek (romState [0x02]).pc) = true ∧
    stopFF.valid = true ∧ (romState [0xFF]).peek (romState [0xFF]).pc = stopFF.stopOpcode ∧
    stopFF.supports ((romState [0xFF]).peek (romState [0xFF]).pc) = true := by
  decide

/-- A writer and a non-writer of each flag, and the named values. -/
theorem witness_FlagFrame :
    (∃ t, exec (.lsrZp 0xFF) State.reset = .next t) ∧ (Instr.lsrZp 0xFF).mnemonic = .lsr ∧
    (Instr.lsrZp 0xFF).writesV = false ∧ (Instr.lsrZp 0xFF).writesI = false ∧ (Instr.lsrZp 0xFF).writesD = false ∧
    (∃ t, exec (.staIndY 0xFF) State.reset = .next t) ∧ (Instr.staIndY 0xFF).writesC = false ∧
    (Instr.staIndY 0xFF).writesZN = false ∧ (∃ t, exec .brk State.reset = .next t) ∧ Instr.brk.writesC = false :=
  ⟨⟨_, exec_lsrZp _ _⟩, rfl, rfl, rfl, rfl, ⟨_, exec_staIndY _ _⟩, rfl, rfl, ⟨_, execBrk_eq _⟩, rfl⟩

theorem witness_RegisterFrame :
    (∃ t, exec (.incAbsX 0xFFFF) State.reset = .next t) ∧ (Instr.incAbsX 0xFFFF).writesA = false ∧
    (Instr.incAbsX 0xFFFF).writesX = false ∧ (Instr.incAbsX 0xFFFF).writesY = false ∧
    (Instr.incAbsX 0xFFFF).writesSp = false ∧ (Instr.incAbsX 0xFFFF).writesPc = false ∧
    Instr.incAbsX 0xFFFF ≠ .stop :=
  ⟨⟨_, exec_incAbsX _ _⟩, rfl, rfl, rfl, rfl, rfl, nofun⟩

/-- A store through a ROM address: the next cell, ROM itself and the unmapped region share no cell with it; and an
instruction that stores nothing. -/
theorem witness_MemoryFrame :
    (∃ t, exec (.staAbs 0x8200) State.reset = .next t) ∧ storedAddrs (.staAbs 0x8200) State.reset = [0x8200] ∧
    (∀ b ∈ storedAddrs (.staAbs 0x8200) State.reset, ¬ sharesCell 0x0201 b) ∧
    (∀ b ∈ storedAddrs (.staAbs 0x8200) State.reset, ¬ sharesCell 0x8200 b) ∧
    (∀ b ∈ storedAddrs (.staAbs 0x8200) State.reset, ¬ sharesCell 0x2200 b) ∧
    sharesCell 0x0200 0x8200 ∧ (∃ t, exec (.ldaAbs 0x8200) State.reset = .next t) ∧
    storedAddrs (.ldaAbs 0x8200) State.reset = [] := by
  have h : storedAddrs (.staAbs 0x8200) State.reset = [0x8200] := rfl
  refine ⟨⟨_, exec_staAbs _ _⟩, h, ?_, ?_, ?_, ?_, ⟨_, exec_ldaAbs _ _⟩, rfl⟩ <;>
    simp only [h, List.mem_singleton, forall_eq, sharesCell, ramMirrorEnd, ramIndex, ramSize] <;> decide

/-- A crossed page on a penalised read, a fixed-cost store, a taken branch. -/
theorem witness_CycleCosts :
    (∃ t, exec (.ldaAbsX 0x12FF) { State.reset with x := 0x01 } = .next t) ∧
    cost (.ldaAbsX 0x12FF) { State.reset with x := 0x01 } = 5 ∧
    (∃ t, exec (.staAbsX 0x12FF) { State.reset with x := 0x01 } = .next t) ∧
    cost (.staAbsX 0x12FF) { State.reset with x := 0x01 } = 5 ∧
    (∃ t, exec (.bpl 0x80) { State.reset with pc := 0x8002 } = .next t) ∧
    cost (.bpl 0x80) { State.reset with pc := 0x8002 } = 4 :=
  ⟨⟨_, exec_ldaAbsX _ _⟩, by decide, ⟨_, exec_staAbsX _ _⟩, by decide, ⟨_, exec_bpl _ _⟩, by decide⟩

/-- A load through a pointer, and an indirect jump whose two pointer bytes are unmapped. -/
theorem witness_ReportsInReadOrder :
    (∃ t, exec (.jmpInd 0x30FF) State.reset = .next t) ∧
    dataReads (.jmpInd 0x30FF) State.reset = [0x30FF, 0x3000] ∧
    (∃ t, exec (.ldaIndX 0xFF) State.reset = .next t) ∧
    dataReads (.ldaIndX 0xFF) State.reset = [0x00FF, 0x0000, 0x0000] :=
  ⟨⟨_, exec_jmpInd _ _⟩, by decide, ⟨_, exec_ldaIndX _ _⟩, by decide⟩

/-- One step for each clause: an unknown opcode at the end of the unmapped region, STOP, and a load whose operand
bytes are unmapped. -/
theorem witness_EventsInStepOrder :
    ({ State.reset with pc := 0x7FFF } : State).halted = false ∧
    noBrk.supports (({ State.reset with pc := 0x7FFF } : State).peek 0x7FFF) = false ∧
    Steps noBrk { State.reset with pc := 0x7FFF } ∧
    (romState [0x02]).halted = false ∧ (romState [0x02]).peek 0x8000 = Config.default.stopOpcode ∧
    Steps Config.default (romState [0x02]) ∧
    ({ State.reset with pc := 0x1FFF, ram := [(2047, 0xAD)] } : State).halted = false ∧
    ({ State.reset with pc := 0x1FFF, ram := [(2047, 0xAD)] } : State).peek 0x1FFF = 0xAD ∧
    Steps Config.default { State.reset with pc := 0x1FFF, ram := [(2047, 0xAD)] } := by
  refine ⟨by decide, by decide, ⟨by decide, by decide, _, rfl⟩, by decide, by decide,
    ⟨by decide, by decide, _, rfl⟩, by decide, by decide, ⟨by decide, by decide, _, rfl⟩⟩

/-- R411 in one step: from PC = 0x7FFF, unmapped, the report of the fetch, then the trace record, then the report
UnknownOpcode(0x00). -/
theorem test_event_order :
    (match stepWith noBrk { State.reset with pc := 0x7FFF } with
      | .next t => t.events
      | .fault _ | .refused _ => []) =
      [.report (.unmappedAccess 0x7FFF),
        .trace { pc0 := 0x7FFF, op := 0x00, a := 0x00, x := 0x00, y := 0x00, sp := 0xFD, p := 0x34, cycles := 0 },
        .report (.unknownOpcode 0x00 0x7FFF)] := by
  decide +kernel

/-! Two corners more: the codes of the reports (R401), and a fetch from the unmapped region (R403, R457). -/

theorem test_report_codes :
    (Report.unmappedAccess 0x3000).code = 1 ∧ (Report.unknownOpcode 0xFF 0x8000).code = 2 ∧
    (Fault.imageSizeError 32783).report = .imageSizeError 32783 ∧ (Report.imageSizeError 32783).code = 3 := by
  decide

/-- Vector 3.1: from PC = 0x3000 the step reads 0x00, reports once, and takes the break trap. -/
theorem test_fetch_unmapped :
    after { State.reset with pc := 0x3000, rom := [(32767, 0x90)] }
      (fun s => { s with
        sp := 0xFA, pc := 0x9000, cycles := 7, ram := [(507, 0x34), (508, 0x02), (509, 0x30)] })
      [.unmappedAccess 0x3000] = true := by
  decide

/-- Vector 3.3: `8D 00 18` from A = 0x5A writes the mirrored cell 0x000. -/
theorem test_store_mirror :
    after { State.reset with a := 0x5A, pc := 0x8000, rom := [(0, 0x8D), (2, 0x18)] }
      (fun s => { s with pc := 0x8003, cycles := 4, ram := [(0, 0x5A)] }) [] = true := by
  decide

end Sys2Proof.Tests
end

/-! PROOF. `exec` by mnemonic: every instruction is its mnemonic, done to the operand its mode names. What each shape of
operand use leaves is said once, and what an instruction keeps and writes follows mnemonic by mnemonic. -/
section

namespace Sys2Proof

/-- The offset byte of a branch (R138). -/
def Arg.offset : Arg → Option Byte
  | .rel off => some off
  | _ => none

/-- The target word of JSR and of JMP absolute (R360, R366). -/
def Arg.target : Arg → Option Word
  | .abs w => some w
  | _ => none

end Sys2Proof

namespace Sys2Proof.Machine

/-- The answer of an operation on an operand; a mode that has no such operand is refused, and no instruction has
such a mode. -/
def withOperand {α : Type} (operand : Option α) (op : α → Result) : Result :=
  match operand with
  | some x => op x
  | none => .refused (.notModelled "operand")

/-- A shift or rotate of A or of memory, as the mode says (R260). -/
def shiftArg (sh : Byte → Bool → Shifted) (n : Nat) (s : State) : Arg → Result
  | .acc => shiftA sh n s
  | arg => withOperand arg.addrForm fun f => shiftMem sh f n s

/-- JMP, direct or through a pointer, as the mode says (R366, R367). -/
def jumpArg (s : State) : Arg → Result
  | .abs w => exec (.jmpAbs w) s
  | .ind ptr => exec (.jmpInd ptr) s
  | _ => .refused (.notModelled "operand")

/-- What a mnemonic does to an operand at a base cost. A mnemonic with one encoding and no operand is its one
instruction. -/
def runMnemonic (m : Mnemonic) (arg : Arg) (n : Nat) (s : State) : Result :=
  match m with
  | .lda => withOperand arg.source fun src => loadA src n s
  | .ldx => withOperand arg.source fun src => loadX src n s
  | .ldy => withOperand arg.source fun src => loadY src n s
  | .adc => withOperand arg.source fun src => addToA src n s
  | .sbc => withOperand arg.source fun src => subFromA src n s
  | .and => withOperand arg.source fun src => andA src n s
  | .ora => withOperand arg.source fun src => orA src n s
  | .eor => withOperand arg.source fun src => eorA src n s
  | .cmp => withOperand arg.source fun src => compareA src n s
  | .cpx => withOperand arg.source fun src => compareX src n s
  | .cpy => withOperand arg.source fun src => compareY src n s
  | .bit => withOperand arg.source fun src => bitTestA src n s
  | .sta => withOperand arg.addrForm fun f => storeA f n s
  | .stx => withOperand arg.addrForm fun f => storeX f n s
  | .sty => withOperand arg.addrForm fun f => storeY f n s
  | .inc => withOperand arg.addrForm fun f => stepMem 1 f n s
  | .dec => withOperand arg.addrForm fun f => stepMem (-1) f n s
  | .asl => shiftArg shiftLeft n s arg
  | .lsr => shiftArg shiftRight n s arg
  | .rol => shiftArg rotateLeft n s arg
  | .ror => shiftArg rotateRight n s arg
  | .bpl => withOperand arg.offset fun off => branchIf (!s.flags.n) off s
  | .bmi => withOperand arg.offset fun off => branchIf s.flags.n off s
  | .bvc => withOperand arg.offset fun off => branchIf (!s.flags.v) off s
  | .bvs => withOperand arg.offset fun off => branchIf s.flags.v off s
  | .bcc => withOperand arg.offset fun off => branchIf (!s.flags.c) off s
  | .bcs => withOperand arg.offset fun off => branchIf s.flags.c off s
  | .bne => withOperand arg.offset fun off => branchIf (!s.flags.z) off s
  | .beq => withOperand arg.offset fun off => branchIf s.flags.z off s
  | .jsr => withOperand arg.target fun w => exec (.jsrAbs w) s
  | .jmp => jumpArg s arg
  | .inx => exec .inx s
  | .iny => exec .iny s
  | .dex => exec .dex s
  | .dey => exec .dey s
  | .pha => exec .pha s
  | .pla => exec .pla s
  | .php => exec .php s
  | .plp => exec .plp s
  | .rts => exec .rts s
  | .brk => exec .brk s
  | .rti => exec .rti s
  | .tax => exec .tax s
  | .txa => exec .txa s
  | .tay => exec .tay s
  | .tya => exec .tya s
  | .txs => exec .txs s
  | .tsx => exec .tsx s
  | .sec => exec .sec s
  | .clc => exec .clc s
  | .sei => exec .sei s
  | .cli => exec .cli s
  | .sed => exec .sed s
  | .cld => exec .cld s
  | .clv => exec .clv s
  | .nop => exec .nop s
  | .stop => exec .stop s

/-- `exec` depends on the mnemonic, the operand and the base cost alone (R121, R471). -/
theorem exec_eq_runMnemonic (i : Instr) (s : State) :
    exec i s = runMnemonic i.mnemonic i.arg i.baseCost s := by
  cases i <;> rfl

theorem withOperand_next {α : Type} {operand : Option α} {op : α → Result} {t : State}
    (h : withOperand operand op = .next t) : ∃ x, operand = some x ∧ op x = .next t := by
  cases operand with
  | none => cases h
  | some x => exact ⟨x, rfl, h⟩

/-! What each shape of operand use leaves (R139, R260, R320). -/

theorem readThen_next {src : Source} {n : Nat} {effect : State → Byte → State} {s t : State}
    (h : readThen src n effect s = .next t) : ∃ l b k, t = (effect (s.afterReads l) b).addCycles k := by
  rw [readThen_eq] at h
  cases h
  exact ⟨_, _, _, rfl⟩

theorem storeTo_next {f : AddrForm} {n : Nat} {v : Byte} {s t : State} (h : storeTo f n v s = .next t) :
    ∃ ea, t = (s.memWrite ea v).addCycles n := by
  rw [storeTo_eq] at h
  cases h
  exact ⟨_, rfl⟩

theorem modifyAt_next {f : AddrForm} {n : Nat} {effect : Byte → Flags → Byte × Flags} {s t : State}
    (h : modifyAt f n effect s = .next t) :
    ∃ ea b, t = (((s.afterReads [ea]).memWrite ea (effect b s.flags).1).setFlags (effect b s.flags).2).addCycles n := by
  rw [modifyAt_eq] at h
  cases h
  exact ⟨_, _, rfl⟩

theorem shiftArg_cases {sh : Byte → Bool → Shifted} {n : Nat} {s t : State} {arg : Arg}
    (h : shiftArg sh n s arg = .next t) :
    (arg = .acc ∧ shiftA sh n s = .next t) ∨ ∃ f, arg.addrForm = some f ∧ shiftMem sh f n s = .next t := by
  cases arg with
  | acc => exact .inl ⟨rfl, h⟩
  | _ => exact .inr (withOperand_next h)

theorem shiftArg_next {sh : Byte → Bool → Shifted} {n : Nat} {s t : State} {arg : Arg}
    (h : shiftArg sh n s arg = .next t) :
    (arg = .acc ∧ ∃ r, r = sh s.a s.flags.c ∧
      t = ((s.setA r.value).setFlags (s.flags.withShift r)).addCycles n) ∨
    ∃ ea b r, r = sh b s.flags.c ∧
      t = (((s.afterReads [ea]).memWrite ea r.value).setFlags (s.flags.withShift r)).addCycles n := by
  obtain ⟨ha, h⟩ | ⟨f, -, h⟩ := shiftArg_cases h
  · cases h; exact .inl ⟨ha, _, rfl, rfl⟩
  · obtain ⟨ea, b, rfl⟩ := modifyAt_next h
    exact .inr ⟨ea, b, _, rfl, rfl⟩

/-- JMP reads its pointer, if it has one, and writes PC (R366, R367). -/
theorem jumpArg_next {s t : State} {arg : Arg} (h : jumpArg s arg = .next t) :
    ∃ l w n, t = ((s.afterReads l).setPc w).addCycles n := by
  cases arg with
  | abs w => cases h; exact ⟨[], w, 3, by rw [State.afterReads_nil]⟩
  | ind ptr =>
    rw [jumpArg, exec_jmpInd, execJmpInd, State.readJumpPointer, State.readWord_eq] at h
    cases h
    exact ⟨_, _, 5, rfl⟩
  | _ => cases h

/-- A branch writes PC, taken or not, and nothing else (R320). -/
theorem branchIf_next {c : Bool} {off : Byte} {s t : State} (h : branchIf c off s = .next t) :
    ∃ w n, t = (s.setPc w).addCycles n := by
  rw [branchIf_eq] at h
  cases h
  cases c
  · exact ⟨s.pc, 2, rfl⟩
  · exact ⟨_, _, rfl⟩

/-! The rest of the state: what every instruction but STOP keeps. -/

/-- What no instruction but STOP writes, and the canonical form of RAM that every write keeps (R57, R81 to R83). -/
structure Kept (s t : State) : Prop where
  halted : t.halted = s.halted
  rom : t.rom = s.rom
  header : t.header = s.header
  trace : t.trace = s.trace
  ram : Memory.wf ramSize s.ram = true → Memory.wf ramSize t.ram = true

theorem Kept.trans {s t u : State} (h : Kept s t) (h' : Kept t u) : Kept s u where
  halted := h'.halted.trans h.halted
  rom := h'.rom.trans h.rom
  header := h'.header.trans h.header
  trace := h'.trace.trans h.trace
  ram := h'.ram ∘ h.ram

theorem kept_afterReads (s : State) (l : List Word) : Kept s (s.afterReads l) :=
  ⟨rfl, rfl, rfl, State.afterReads_trace s l, id⟩

theorem kept_setPc (s : State) (w : Word) : Kept s (s.setPc w) := ⟨rfl, rfl, rfl, rfl, id⟩

theorem kept_setFlags (s : State) (f : Flags) : Kept s (s.setFlags f) := ⟨rfl, rfl, rfl, rfl, id⟩

theorem kept_addCycles (s : State) (n : Nat) : Kept s (s.addCycles n) := ⟨rfl, rfl, rfl, rfl, id⟩

theorem kept_memWrite (s : State) (k : Word) (v : Byte) : Kept s (s.memWrite k v) :=
  ⟨rfl, rfl, rfl, rfl, fun h => Memory.write_wf v h (ramIndex_lt k)⟩

/-- The two accesses of a read-modify-write instruction (R260). -/
theorem kept_readWrite (s : State) (ea : Word) (v : Byte) : Kept s ((s.afterReads [ea]).memWrite ea v) :=
  (kept_afterReads s [ea]).trans (kept_memWrite _ ea v)

theorem kept_push (s : State) (v : Byte) : Kept s (s.push v) :=
  (kept_memWrite s (stackAddr s.sp) v).trans ⟨rfl, rfl, rfl, rfl, id⟩

theorem kept_pushWord (s : State) (w : Word) : Kept s (s.pushWord w) :=
  (kept_push s (hi w)).trans (kept_push _ (lo w))

theorem kept_takeBreak (s : State) : Kept s s.takeBreak := by
  rw [State.takeBreak_eq]
  exact (((kept_pushWord s s.pc).trans (kept_push _ _)).trans (kept_setFlags _ _)).trans (kept_setPc _ _)

/-- Every instruction but STOP keeps what `Kept` names. -/
theorem exec_kept {i : Instr} {s t : State} (h : exec i s = .next t) (hi : i.mnemonic ≠ .stop) : Kept s t := by
  rw [exec_eq_runMnemonic] at h
  cases hm : i.mnemonic <;> rw [hm] at h
  case stop => exact absurd hm hi
  case lda | ldx | ldy | adc | sbc | and | ora | eor | cmp | cpx | cpy | bit =>
    obtain ⟨src, -, h⟩ := withOperand_next h
    obtain ⟨l, b, k, rfl⟩ := readThen_next h
    exact (kept_afterReads s l).trans ⟨rfl, rfl, rfl, rfl, id⟩
  case sta | stx | sty =>
    obtain ⟨f, -, h⟩ := withOperand_next h
    obtain ⟨ea, rfl⟩ := storeTo_next h
    exact (kept_memWrite s ea _).trans (kept_addCycles _ _)
  case inc | dec =>
    obtain ⟨f, -, h⟩ := withOperand_next h
    obtain ⟨ea, b, rfl⟩ := modifyAt_next h
    exact (kept_readWrite s ea _).trans ((kept_setFlags _ _).trans (kept_addCycles _ _))
  case asl | lsr | rol | ror =>
    obtain ⟨-, r, -, rfl⟩ | ⟨ea, b, r, -, rfl⟩ := shiftArg_next h
    · exact ⟨rfl, rfl, rfl, rfl, id⟩
    · exact (kept_readWrite s ea _).trans ((kept_setFlags _ _).trans (kept_addCycles _ _))
  case bpl | bmi | bvc | bvs | bcc | bcs | bne | beq =>
    obtain ⟨off, -, h⟩ := withOperand_next h
    obtain ⟨w, n, rfl⟩ := branchIf_next h
    exact (kept_setPc s w).trans (kept_addCycles _ n)
  case jsr =>
    obtain ⟨w, -, h⟩ := withOperand_next h
    cases h
    exact (kept_pushWord s _).trans ((kept_setPc _ _).trans (kept_addCycles _ _))
  case jmp =>
    obtain ⟨l, w, n, rfl⟩ := jumpArg_next h
    exact (kept_afterReads s l).trans ((kept_setPc _ w).trans (kept_addCycles _ n))
  case brk =>
    cases h
    exact (kept_setPc s _).trans ((kept_takeBreak _).trans (kept_addCycles _ _))
  case pha | php =>
    cases h
    exact (kept_push s _).trans (kept_addCycles _ _)
  case pla | plp | rts | rti =>
    simp only [runMnemonic, exec_pla, execPla_eq, exec_plp, execPlp_eq, exec_rts, execRts_eq, exec_rti, execRti_eq] at h
    cases h
    exact ⟨rfl, rfl, rfl, rfl, id⟩
  case inx | iny | dex | dey | tax | txa | tay | tya | tsx | txs | sec | clc | sei | cli | sed | cld | clv | nop =>
    cases h
    exact ⟨rfl, rfl, rfl, rfl, id⟩

end Sys2Proof.Machine

namespace Sys2Proof

/-- STOP has one encoding (R151, R394). -/
theorem eq_stop_of_mnemonic {i : Instr} (h : i.mnemonic = .stop) : i = .stop :=
  match i, h with
  | .stop, _ => rfl

end Sys2Proof

namespace Sys2Proof.Machine

/-- STOP halts and does nothing else (R394). -/
theorem exec_of_stop {i : Instr} (h : i.mnemonic = .stop) (s : State) : exec i s = .next s.setHalted := by
  rw [eq_stop_of_mnemonic h, exec_stop]

/-- A reset that succeeds leaves a running core (R54). -/
theorem reset_halted {cfg : Config} {image : List Byte} {t : State} (h : reset cfg image = .next t) :
    t.halted = false := by
  cases hv : cfg.valid with
  | false => rw [reset_invalid hv] at h; cases h
  | true =>
    obtain hl | hl := Nat.lt_or_ge image.length imageMinSize
    · rw [reset_short hv hl] at h; cases h
    · rw [reset_long hv hl, State.loadResetVector, State.readWord_eq] at h
      cases h
      rfl

theorem exec_halted {i : Instr} {s t : State} (h : exec i s = .next t) (hi : i ≠ .stop) : t.halted = s.halted :=
  (exec_kept h fun hm => hi (eq_stop_of_mnemonic hm)).halted

/-! The invariant. -/

theorem Kept.wf {s t : State} (h : Kept s t) (hw : s.wf = true) : t.wf = true := by
  obtain ⟨hram, hrom, hheader⟩ := (State.wf_iff s).1 hw
  exact (State.wf_iff t).2 ⟨h.ram hram, h.rom ▸ hrom, h.header ▸ hheader⟩

theorem exec_keeps_wf {i : Instr} {s t : State} (h : exec i s = .next t) (hw : s.wf = true) : t.wf = true := by
  by_cases hi : i.mnemonic = .stop
  · rw [exec_of_stop hi] at h
    cases h
    exact State.wf_of_eq hw rfl rfl rfl
  · exact (exec_kept h hi).wf hw

theorem State.wf_fetchOpcode {s : State} (hw : s.wf = true) : s.fetchOpcode.state.wf = true := by
  rw [State.fetchOpcode_eq]
  exact State.wf_of_eq hw rfl rfl rfl

theorem wf_fetchOperands {s : State} (form : Form) (hw : s.wf = true) : (fetchOperands form s).state.wf = true := by
  obtain ⟨l, w, h⟩ := fetchOperands_state form s
  rw [h]
  exact State.wf_of_eq hw rfl rfl rfl

end Sys2Proof.Machine

namespace Sys2Proof

/-! The flags (R51). -/

/-- The flags after an instruction, from the state before and one byte: the operand for the sums, the comparisons, BIT
and the shifts, the byte pulled for PLP and RTI, the result for every other writer of Z and N (R51). -/
def Mnemonic.flagsAfter (m : Mnemonic) (s : Machine.State) (b : Byte) : Flags :=
  match m with
  | .lda | .ldx | .ldy | .and | .ora | .eor | .inc | .dec | .inx | .iny | .dex | .dey | .pla | .tax | .txa | .tay
  | .tya | .tsx => s.flags.withZN b
  | .adc => s.flags.withSum (adc8 s.a b s.flags.c)
  | .sbc => s.flags.withSum (sbc8 s.a b s.flags.c)
  | .asl => s.flags.withShift (shiftLeft b s.flags.c)
  | .lsr => s.flags.withShift (shiftRight b s.flags.c)
  | .rol => s.flags.withShift (rotateLeft b s.flags.c)
  | .ror => s.flags.withShift (rotateRight b s.flags.c)
  | .cmp => s.flags.compare s.a b
  | .cpx => s.flags.compare s.x b
  | .cpy => s.flags.compare s.y b
  | .bit => s.flags.bitTest s.a b
  | .plp | .rti => Flags.unpack b
  | .sec => { s.flags with c := true }
  | .clc => { s.flags with c := false }
  | .sei | .brk => { s.flags with i := true }
  | .cli => { s.flags with i := false }
  | .sed => { s.flags with d := true }
  | .cld => { s.flags with d := false }
  | .clv => { s.flags with v := false }
  | .sta | .stx | .sty | .bpl | .bmi | .bvc | .bvs | .bcc | .bcs | .bne | .beq | .pha | .php | .jsr | .rts | .jmp
  | .txs | .nop | .stop => s.flags

end Sys2Proof

namespace Sys2Proof.Machine

/-- The flags after any instruction are its row of the table, at some byte. -/
theorem exec_flags {i : Instr} {s t : State} (h : exec i s = .next t) :
    ∃ b, t.flags = i.mnemonic.flagsAfter s b := by
  rw [exec_eq_runMnemonic] at h
  cases hm : i.mnemonic <;> rw [hm] at h
  case lda | ldx | ldy | adc | sbc | and | ora | eor | cmp | cpx | cpy | bit =>
    obtain ⟨src, -, h⟩ := withOperand_next h
    obtain ⟨l, b, k, rfl⟩ := readThen_next h
    exact ⟨_, rfl⟩
  case sta | stx | sty =>
    obtain ⟨f, -, h⟩ := withOperand_next h
    obtain ⟨ea, rfl⟩ := storeTo_next h
    exact ⟨0x00, rfl⟩
  case inc | dec =>
    obtain ⟨f, -, h⟩ := withOperand_next h
    obtain ⟨ea, b, rfl⟩ := modifyAt_next h
    exact ⟨_, rfl⟩
  case asl | lsr | rol | ror =>
    obtain ⟨-, r, rfl, rfl⟩ | ⟨ea, b, r, rfl, rfl⟩ := shiftArg_next h
    · exact ⟨s.a, rfl⟩
    · exact ⟨b, rfl⟩
  case bpl | bmi | bvc | bvs | bcc | bcs | bne | beq =>
    obtain ⟨off, -, h⟩ := withOperand_next h
    obtain ⟨w, n, rfl⟩ := branchIf_next h
    exact ⟨0x00, rfl⟩
  case jsr =>
    obtain ⟨w, -, h⟩ := withOperand_next h
    cases h
    exact ⟨0x00, rfl⟩
  case jmp =>
    obtain ⟨l, w, n, rfl⟩ := jumpArg_next h
    exact ⟨0x00, rfl⟩
  case pla | plp | rti =>
    simp only [runMnemonic, exec_pla, execPla_eq, exec_plp, execPlp_eq, exec_rti, execRti_eq] at h
    cases h
    exact ⟨_, rfl⟩
  case brk | rts =>
    simp only [runMnemonic, exec_brk, execBrk_eq, exec_rts, execRts_eq] at h
    cases h
    exact ⟨0x00, rfl⟩
  case inx | iny | dex | dey | tax | txa | tay | tya | tsx =>
    cases h
    exact ⟨_, rfl⟩
  case pha | php | txs | sec | clc | sei | cli | sed | cld | clv | nop | stop =>
    cases h
    exact ⟨0x00, rfl⟩

/-! The registers (R41 to R44). -/

/-- A register that the spec does not list for the instruction keeps its value. -/
theorem exec_registers {i : Instr} {s t : State} (h : exec i s = .next t) :
    (i.writesA = false → t.a = s.a) ∧ (i.writesX = false → t.x = s.x) ∧ (i.writesY = false → t.y = s.y) ∧
    (i.writesSp = false → t.sp = s.sp) ∧ (i.writesPc = false → t.pc = s.pc) := by
  rw [exec_eq_runMnemonic] at h
  simp only [Instr.writesA, Instr.writesX, Instr.writesY, Instr.writesSp, Instr.writesPc]
  cases hm : i.mnemonic <;> rw [hm] at h
  case lda | ldx | ldy | adc | sbc | and | ora | eor | cmp | cpx | cpy | bit =>
    obtain ⟨src, -, h⟩ := withOperand_next h
    obtain ⟨l, b, k, rfl⟩ := readThen_next h
    simp [State.takeSum]
  case sta | stx | sty =>
    obtain ⟨f, -, h⟩ := withOperand_next h
    obtain ⟨ea, rfl⟩ := storeTo_next h
    simp
  case inc | dec =>
    obtain ⟨f, -, h⟩ := withOperand_next h
    obtain ⟨ea, b, rfl⟩ := modifyAt_next h
    simp
  case asl | lsr | rol | ror =>
    obtain ⟨ha, r, -, rfl⟩ | ⟨ea, b, r, -, rfl⟩ := shiftArg_next h
    · simp [ha, Arg.mode]
    · simp
  case bpl | bmi | bvc | bvs | bcc | bcs | bne | beq =>
    obtain ⟨off, -, h⟩ := withOperand_next h
    obtain ⟨w, n, rfl⟩ := branchIf_next h
    simp
  case jsr =>
    obtain ⟨w, -, h⟩ := withOperand_next h
    cases h
    simp
  case jmp =>
    obtain ⟨l, w, n, rfl⟩ := jumpArg_next h
    simp
  case pla | plp | rts | rti | brk =>
    simp only [runMnemonic, exec_pla, execPla_eq, exec_plp, execPlp_eq, exec_rts, execRts_eq, exec_rti, execRti_eq,
      exec_brk, execBrk_eq] at h
    cases h
    simp
  case inx | iny | dex | dey | tax | txa | tay | tya | tsx | txs | sec | clc | sei | cli | sed | cld | clv | nop | pha
  | php | stop =>
    cases h
    simp

end Sys2Proof.Machine
end

/-! PROOF. The fetch: what the decoder makes of an opcode, and the state in which its instruction runs. -/
section

namespace Sys2Proof

/-- What a decoded opcode is: the stop opcode's entry is STOP, any other opcode's is its row of the table. -/
theorem decodeOpcode_some {cfg : Config} {op : Byte} {form : Form} (h : cfg.decodeOpcode op = some form) :
    (op = cfg.stopOpcode ∧ form = .bare .stop) ∨ (op ≠ cfg.stopOpcode ∧ documentedForm op = some form) := by
  rw [Config.decodeOpcode] at h
  split at h
  · cases h
  · split at h
    · next ho => cases h; exact .inl ⟨ho, rfl⟩
    · next ho => exact .inr ⟨ho, h⟩

/-- What a supported opcode decodes to does not depend on what is left out (R59, R153). -/
theorem decodeOpcode_of_supports {cfg : Config} {op : Byte} (hs : cfg.supports op = true) :
    cfg.decodeOpcode op = if op = cfg.stopOpcode then some (.bare .stop) else documentedForm op := by
  simp only [Config.supports, Bool.and_eq_true, Bool.not_eq_true'] at hs
  rw [Config.decodeOpcode, hs.2, if_neg (by simp)]

theorem supports_of_mem_leftOut {cfg : Config} {op : Byte} (h : op ∈ cfg.leftOut) : cfg.supports op = false := by
  simp [Config.supports, h]

theorem supports_default (op : Byte) : Config.default.supports op = true ↔ documented op = true ∨ op = 0x02 := by
  simp [Config.supports]

end Sys2Proof

namespace Sys2Proof.Machine

/-- A row of the table fetches an instruction that is not STOP. -/
theorem fetchOperands_ne_stop {op : Byte} {form : Form} (h : documentedForm op = some form) (s : State) :
    (fetchOperands form s).instr ≠ .stop := by
  have hd := documentedForm_describes h
  cases form with
  | bare i => obtain ⟨-, -, -, hi, -⟩ := hd; exact hi
  | padded i => obtain ⟨rfl, -⟩ := hd; exact nofun
  | byte f => obtain ⟨-, -, -, hi, -⟩ := hd s.fetch8.value; exact hi
  | word f => obtain ⟨-, -, -, hi, -⟩ := hd (word s.fetch8.state.fetch8.value s.fetch8.value); exact hi

theorem fetchOperands_fetchOpcode_halted (form : Form) (s : State) :
    (fetchOperands form s.fetchOpcode.state).state.halted = s.halted := by
  obtain ⟨l, w, h⟩ := fetchOperands_state form s.fetchOpcode.state
  rw [h, State.fetchOpcode_eq]
  rfl

/-! The state after the fetch, by the number of bytes read (R124). -/

theorem afterFetch_of_one {i : Instr} (h : i.arg.bytesRead = 1) (s : State) :
    s.afterFetch i = s.fetchOpcode.state := by
  rw [State.fetchOpcode_eq]
  simp [State.afterFetch, State.operandAddrs, h]

theorem afterFetch_of_two {i : Instr} (h : i.arg.bytesRead = 2) (s : State) :
    s.afterFetch i = s.fetchOpcode.state.fetch8.state := by
  rw [State.fetchOpcode_eq, State.fetch8_eq]
  simp [State.afterFetch, State.operandAddrs, State.afterReads, State.setPc, h, BitVec.add_assoc]

theorem afterFetch_of_three {i : Instr} (h : i.arg.bytesRead = 3) (s : State) :
    s.afterFetch i = s.fetchOpcode.state.fetch8.state.fetch8.state := by
  rw [State.fetchOpcode_eq, State.fetch8_eq, State.fetch8_eq]
  simp [State.afterFetch, State.operandAddrs, State.afterReads, State.setPc, h, BitVec.add_assoc,
    List.range_succ]

/-- The first operand byte is the one after the opcode. -/
theorem fetchOpcode_fetch8_value (s : State) : s.fetchOpcode.state.fetch8.value = s.peek (s.pc + 1) := by
  rw [State.fetchOpcode_eq]
  rfl

theorem fetchOpcode_fetch8_fetch8_value (s : State) :
    s.fetchOpcode.state.fetch8.state.fetch8.value = s.peek (s.pc + 2) := by
  have hpc : s.pc + 1 + 1 = s.pc + 2 := BitVec.add_assoc s.pc 1 1
  rw [State.fetchOpcode_eq, State.fetch8_eq, State.fetch8_eq, ← hpc]
  rfl

/-- What the decoder reads from the three bytes at PC is what the fetch unit reads, and the fetch leaves
`State.afterFetch` (R120, R124). -/
theorem fetchOperands_of_decode {cfg : Config} {s : State} {i : Instr} {rest : List Byte}
    (h : decode cfg [s.peek s.pc, s.peek (s.pc + 1), s.peek (s.pc + 2)] = .ok i rest) :
    ∃ form, cfg.decodeOpcode (s.peek s.pc) = some form ∧
      fetchOperands form s.fetchOpcode.state = { instr := i, state := s.afterFetch i } := by
  cases hd : cfg.decodeOpcode (s.peek s.pc) with
  | none => simp [decode, hd] at h
  | some form =>
    refine ⟨form, rfl, ?_⟩
    obtain ⟨-, rfl⟩ | ⟨-, hf⟩ := decodeOpcode_some hd
    · simp only [decode, hd, Decoded.ok.injEq] at h
      obtain ⟨rfl, -⟩ := h
      rw [fetchOperands, afterFetch_of_one rfl]
    · have hform := documentedForm_describes hf
      cases form <;> simp only [decode, hd, Decoded.ok.injEq] at h <;> obtain ⟨rfl, -⟩ := h
      case bare j =>
        obtain ⟨-, -, hlen, -⟩ := hform
        rw [fetchOperands, afterFetch_of_one hlen]
      case padded j =>
        obtain ⟨rfl, -⟩ := hform
        rw [fetchOperands, afterFetch_of_one rfl]
      case byte f =>
        obtain ⟨-, -, hlen, -⟩ := hform (s.peek (s.pc + 1))
        rw [fetchOperands, fetchOpcode_fetch8_value, afterFetch_of_two hlen]
      case word f =>
        obtain ⟨-, -, hlen, -⟩ := hform (word (s.peek (s.pc + 2)) (s.peek (s.pc + 1)))
        rw [fetchOperands, fetchOpcode_fetch8_value, fetchOpcode_fetch8_fetch8_value, afterFetch_of_three hlen]

end Sys2Proof.Machine
end

/-! PROOF. The packed status byte (R48, R49) and the sign bit (R50), bit by bit. -/
section

namespace Sys2Proof

theorem pack_toNat (f : Flags) :
    f.pack.toNat = f.n.toNat * 128 + f.v.toNat * 64 + 32 + 16 + f.d.toNat * 8 + f.i.toNat * 4 +
      f.z.toNat * 2 + f.c.toNat := by
  have hn := f.n.toNat_lt; have hv := f.v.toNat_lt; have hd := f.d.toNat_lt
  have hi := f.i.toNat_lt; have hz := f.z.toNat_lt; have hc := f.c.toNat_lt
  rw [Flags.pack, BitVec.toNat_ofNat, Nat.mod_eq_of_lt (by omega)]

/-- The packed byte, bit 0 first: C, Z, I, D, 1, 1, V, N (R47). -/
theorem pack_eq_ofBoolListLE (f : Flags) :
    f.pack = BitVec.ofBoolListLE [f.c, f.z, f.i, f.d, true, true, f.v, f.n] := by
  obtain ⟨c, z, i, d, v, n⟩ := f
  revert c z i d v n
  decide

theorem pack_getLsbD (f : Flags) (k : Nat) :
    f.pack.getLsbD k = [f.c, f.z, f.i, f.d, true, true, f.v, f.n].getD k false := by
  rw [pack_eq_ofBoolListLE, BitVec.getLsbD_ofBoolListLE]

theorem unpack_pack (f : Flags) : Flags.unpack f.pack = f := by
  simp only [Flags.unpack, pack_getLsbD]
  rfl

theorem pack_unpack (b : Byte) : (Flags.unpack b).pack = b ||| 0x30 := by
  apply BitVec.eq_of_getLsbD_eq
  intro k hk
  rw [pack_getLsbD]
  interval_cases k <;> simp [Flags.unpack]

/-- Bit 7 is set from 128 on. -/
theorem getLsbD_seven (v : Byte) : v.getLsbD 7 = decide (128 ≤ v.toNat) :=
  (BitVec.msb_eq_getLsbD_last v).symm.trans (BitVec.msb_eq_decide v)

end Sys2Proof
end

/-! PROOF. The obligations of 10_state.md. -/
section

open Sys2Proof Sys2Proof.Machine

/-- Settles O11: a step is idle, halts on an unknown opcode, or runs an instruction, and each keeps the invariant. -/
theorem stepKeepsWf : Obligations.StepKeepsWf := by
  intro cfg s t hv hw h
  obtain ⟨-, hs⟩ | ⟨-, -, hs⟩ | ⟨-, form, -, hs⟩ := stepWith_cases hv s
  all_goals rw [hs] at h
  · cases h; exact hw
  · cases h; exact State.wf_of_eq (State.wf_fetchOpcode hw) rfl rfl rfl
  · exact exec_keeps_wf h (wf_fetchOperands form (State.wf_fetchOpcode hw))

/-- Settles O5: a supported opcode decodes by the table, whatever else is left out, and an unknown one halts. -/
theorem supportedOpcodesDecode : Obligations.SupportedOpcodesDecode := by
  refine ⟨supports_default, fun cfg hv op => ⟨decodeOpcode_eq_none cfg op, ?_, ?_, ?_, ?_⟩⟩
  · intro hs ho
    rw [decodeOpcode_of_supports hs, if_neg ho]
  · intro hs ho
    rw [decodeOpcode_of_supports hs, if_pos ho]
  · intro hl s hh hp
    subst hp
    have hd := (decodeOpcode_eq_none cfg _).2 (supports_of_mem_leftOut hl)
    exact ⟨_, stepWith_unknown hv hh hd, rfl⟩
  · intro l hs hs'
    rw [decodeOpcode_of_supports hs, decodeOpcode_of_supports hs']

/-- Settles O14, by the cases of a step: unknown opcode, STOP, or a row of the table, which never is STOP. -/
theorem haltedExactlyByStopOrUnknown : Obligations.HaltedExactlyByStopOrUnknown := by
  refine ⟨fun _ _ _ => reset_halted, fun cfg s t hv hh h => ?_, fun cfg s t hv hh h => ?_⟩
  · cases hd : cfg.decodeOpcode (s.peek s.pc) with
    | none =>
      rw [stepWith_unknown hv hh hd] at h
      cases h
      exact ⟨fun _ => .inr ((decodeOpcode_eq_none cfg _).1 hd), fun _ => rfl⟩
    | some form =>
      have hs : cfg.supports (s.peek s.pc) ≠ false := fun hs => by
        rw [(decodeOpcode_eq_none cfg _).2 hs] at hd; cases hd
      rw [stepWith_run hv hh hd] at h
      obtain ⟨ho, rfl⟩ | ⟨ho, hf⟩ := decodeOpcode_some hd
      · cases h
        exact ⟨fun _ => .inl ho, fun _ => rfl⟩
      · have ht : t.halted = false := by
          rw [exec_halted h (fetchOperands_ne_stop hf _), fetchOperands_fetchOpcode_halted, hh]
        simp [ht, ho, hs]
  · rw [stepWith_halted hv hh] at h
    cases h
    rfl

/-- Settles O27: both round trips hold bit by bit. -/
theorem packAndUnpack : Obligations.PackAndUnpack :=
  ⟨fun f => ⟨pack_toNat f, unpack_pack f⟩, fun b => ⟨rfl, pack_unpack b⟩⟩

/-- Settles O54: the flags after an instruction are a row of `Mnemonic.flagsAfter`, and each row keeps and writes what
R51 lists. -/
theorem flagFrame : Obligations.FlagFrame := by
  intro i s t h
  obtain ⟨b, hb⟩ := exec_flags h
  rw [hb]
  simp only [Instr.writesC, Instr.writesZN, Instr.writesV, Instr.writesI, Instr.writesD]
  cases i.mnemonic <;>
    simp [Mnemonic.flagsAfter, Flags.withZN, Flags.withSum, Flags.withShift, Flags.compare, Flags.bitTest, shiftRight]

/-- Settles O55: the registers by `exec_registers`, the rest by `Kept`, and STOP writes `halted` alone. -/
theorem registerFrame : Obligations.RegisterFrame := by
  intro i s t h
  obtain ⟨ha, hx, hy, hsp, hpc⟩ := exec_registers h
  refine ⟨ha, hx, hy, hsp, hpc, exec_halted h, ?_⟩
  by_cases hi : i.mnemonic = .stop
  · rw [exec_of_stop hi] at h
    cases h
    exact ⟨rfl, rfl, rfl⟩
  · have hk := exec_kept h hi
    exact ⟨hk.rom, hk.header, hk.trace⟩

/-- Settles O7: the fetch unit reads what the decoder is given, and leaves `State.afterFetch`. -/
theorem stepRunsDecoded : Obligations.StepRunsDecoded := by
  refine ⟨fun _ => rfl, fun cfg s i rest hv hh h => ?_⟩
  obtain ⟨form, hd, hfetch⟩ := fetchOperands_of_decode h
  rw [stepWith_run hv hh hd, hfetch]

/-- Settles O8, by the first branch of a step. -/
theorem haltedStepIsIdle : Obligations.HaltedStepIsIdle :=
  fun _ _ hv hh => stepWith_halted hv hh

/-- Settles O28: N is bit 7, which is set from 128 on. -/
theorem setZNRule : Obligations.SetZNRule := by
  intro s v
  refine ⟨?_, rfl⟩
  rw [State.setZN, Flags.withZN, getLsbD_seven]
  rfl

end

/-! PROOF. The accesses of an instruction to memory: the reports of its reads in their order (R95, R402), and the RAM
cells it leaves (R86). Each access is described once, and an instruction is a chain of them. -/
section

namespace Sys2Proof

/-- The operand of a reading instruction: the immediate byte, which is no memory form, or a memory form. -/
theorem Arg.source_cases {arg : Arg} {src : Machine.Source} (h : arg.source = some src) :
    (∃ b, src = .imm b ∧ arg.addrForm = none) ∨ ∃ f, src = .mem f ∧ arg.addrForm = some f := by
  cases arg with
  | imm b => cases h; exact .inl ⟨b, rfl, rfl⟩
  | zp | zpx | zpy | abs | absx | absy | indx | indy => cases h; exact .inr ⟨_, rfl, rfl⟩
  | imp | acc | ind | rel | brk | stop => cases h

end Sys2Proof

namespace Sys2Proof.Machine

/-- From `s` to `t`, reads of the listed addresses are reported in their order, RAM changes in the cells of the listed
stores alone, and `cycles` only grows (R55, R86, R402). -/
structure Accesses (s t : State) (reads stores : List Word) : Prop where
  events : t.events = s.events ++ reads.flatMap accessReport
  ram_of_no_store : stores = [] → t.ram = s.ram
  read_ram : ∀ k, (∀ b ∈ stores, k ≠ ramIndex b) → t.ram.read k = s.ram.read k
  cycles : s.cycles ≤ t.cycles

theorem Accesses.trans {s t u : State} {l l' m m' : List Word} (h : Accesses s t l m) (h' : Accesses t u l' m') :
    Accesses s u (l ++ l') (m ++ m') where
  events := by rw [h'.events, h.events, List.flatMap_append, List.append_assoc]
  ram_of_no_store hm := by
    obtain ⟨rfl, rfl⟩ := List.append_eq_nil_iff.1 hm
    exact (h'.ram_of_no_store rfl).trans (h.ram_of_no_store rfl)
  read_ram k hk := by
    rw [List.forall_mem_append] at hk
    exact (h'.read_ram k hk.2).trans (h.read_ram k hk.1)
  cycles := h.cycles.trans h'.cycles

/-- What comes after the accesses may change all but RAM and the outputs. -/
theorem Accesses.andThen {s t u : State} {l m : List Word} (h : Accesses s t l m) (hram : u.ram = t.ram)
    (hevents : u.events = t.events) (hcycles : t.cycles ≤ u.cycles) : Accesses s u l m where
  events := hevents.trans h.events
  ram_of_no_store hm := hram.trans (h.ram_of_no_store hm)
  read_ram k hk := hram ▸ h.read_ram k hk
  cycles := h.cycles.trans hcycles

theorem accesses_afterReads (s : State) (l : List Word) : Accesses s (s.afterReads l) l [] :=
  ⟨rfl, fun _ => rfl, fun _ _ => rfl, le_rfl⟩

/-- Reads of RAM and ROM report nothing (R84). -/
theorem State.afterReads_mapped (s : State) {l : List Word} (h : ∀ k ∈ l, unmapped k = false) :
    s.afterReads l = s := by
  induction l with
  | nil => exact State.afterReads_nil s
  | cons k l ih =>
    rw [List.forall_mem_cons] at h
    rw [State.afterReads_cons_mapped s l h.1, ih h.2]

theorem accesses_mapped (s : State) {l : List Word} (h : ∀ k ∈ l, unmapped k = false) : Accesses s s l [] := by
  have hs := accesses_afterReads s l
  rwa [State.afterReads_mapped s h] at hs

/-- An instruction that accesses no memory. -/
theorem accesses_none {s t : State} (hram : t.ram = s.ram) (hevents : t.events = s.events)
    (hcycles : s.cycles ≤ t.cycles) : Accesses s t [] [] :=
  (accesses_mapped s (List.forall_mem_nil _)).andThen hram hevents hcycles

theorem accesses_memWrite (s : State) (a : Word) (v : Byte) : Accesses s (s.memWrite a v) [] [a] where
  events := (List.append_nil _).symm
  ram_of_no_store := nofun
  read_ram _ hk := Memory.read_write_other s.ram v (hk a (List.mem_singleton_self a)).symm
  cycles := le_rfl

theorem accesses_push (s : State) (v : Byte) : Accesses s (s.push v) [] [stackAddr s.sp] :=
  (accesses_memWrite s (stackAddr s.sp) v).andThen rfl rfl le_rfl

theorem accesses_pushWord (s : State) (w : Word) :
    Accesses s (s.pushWord w) [] [stackAddr s.sp, stackAddr (s.sp - 1)] :=
  (accesses_push s (hi w)).trans (accesses_push _ (lo w))

/-- The three pushes of a trap (R364). -/
theorem accesses_pushFrame (s : State) (w : Word) (v : Byte) :
    Accesses s ((s.pushWord w).push v) [] [stackAddr s.sp, stackAddr (s.sp - 1), stackAddr (s.sp - 2)] := by
  have hsp : s.sp - 2 = s.sp - 1 - 1 := by bv_omega
  rw [hsp]
  exact (accesses_pushWord s w).trans (accesses_push _ v)

/-- The BRK vector is in ROM (R89). -/
theorem unmapped_brkVectorReads : ∀ k ∈ [(0xFFFE : Word), 0xFFFF], unmapped k = false :=
  List.forall_mem_cons.2 ⟨unmapped_brkVector, List.forall_mem_singleton.2 unmapped_brkVector_succ⟩

/-! The three shapes of operand use (R125, R139, R260). -/

/-- Reading a pointer in the zero page reports nothing (R90). -/
theorem accesses_pointerReads (f : AddrForm) (s : State) : Accesses s s (f.pointerReads s) [] :=
  accesses_mapped s (by cases f <;> simp [AddrForm.pointerReads])

theorem readThen_accesses {src : Source} {n : Nat} {effect : State → Byte → State} {s t : State}
    (h : readThen src n effect s = .next t) (heffect : ∀ u b, Accesses u (effect u b) [] []) :
    Accesses s t (src.addrs s) [] := by
  rw [readThen_eq] at h
  cases h
  have hread := (accesses_afterReads s (src.addrs s)).trans (heffect _ (src.byteAt s))
  rw [List.append_nil] at hread
  exact hread.andThen rfl rfl (Nat.le_add_right _ _)

theorem storeTo_accesses {f : AddrForm} {n : Nat} {v : Byte} {s t : State} (h : storeTo f n v s = .next t) :
    Accesses s t (f.pointerReads s) [(f.resolve s).ea] := by
  rw [storeTo_eq] at h
  cases h
  have hs := (accesses_pointerReads f s).trans (accesses_memWrite s (f.resolve s).ea v)
  rw [List.append_nil] at hs
  exact hs.andThen rfl rfl (Nat.le_add_right _ _)

theorem modifyAt_accesses {f : AddrForm} {n : Nat} {effect : Byte → Flags → Byte × Flags} {s t : State}
    (h : modifyAt f n effect s = .next t) :
    Accesses s t (f.pointerReads s ++ [(f.resolve s).ea]) [(f.resolve s).ea] := by
  rw [modifyAt_eq] at h
  cases h
  have hread := accesses_afterReads s [(f.resolve s).ea]
  exact ((accesses_pointerReads f s).trans (hread.trans (accesses_memWrite _ _ _))).andThen rfl rfl
    (Nat.le_add_right _ _)

/-- The reads of an instruction are `dataReads`, its stores `storedAddrs` (R86, R95). -/
theorem exec_accesses {i : Instr} {s t : State} (h : exec i s = .next t) :
    Accesses s t (dataReads i s) (storedAddrs i s) := by
  rw [exec_eq_runMnemonic] at h
  rw [dataReads, storedAddrs]
  cases hm : i.mnemonic <;> rw [hm] at h
  case lda | ldx | ldy | adc | sbc | and | ora | eor | cmp | cpx | cpy | bit =>
    obtain ⟨src, hsrc, h⟩ := withOperand_next h
    have hread := readThen_accesses h fun _ _ => accesses_none rfl rfl le_rfl
    obtain ⟨b, rfl, ha⟩ | ⟨f, rfl, ha⟩ := Arg.source_cases hsrc <;> rw [ha]
    · exact hread
    · exact (accesses_pointerReads f s).trans hread
  case sta | stx | sty =>
    obtain ⟨f, ha, h⟩ := withOperand_next h
    rw [ha]
    exact storeTo_accesses h
  case inc | dec =>
    obtain ⟨f, ha, h⟩ := withOperand_next h
    rw [ha]
    exact modifyAt_accesses h
  case asl | lsr | rol | ror =>
    obtain ⟨ha, h⟩ | ⟨f, ha, h⟩ := shiftArg_cases h
    · cases h
      rw [ha]
      exact accesses_none rfl rfl (Nat.le_add_right _ _)
    · rw [ha]
      exact modifyAt_accesses h
  case bpl | bmi | bvc | bvs | bcc | bcs | bne | beq =>
    obtain ⟨off, -, h⟩ := withOperand_next h
    obtain ⟨w, n, rfl⟩ := branchIf_next h
    exact accesses_none rfl rfl (Nat.le_add_right _ _)
  case jsr =>
    obtain ⟨w, -, h⟩ := withOperand_next h
    cases h
    exact (accesses_pushWord s _).andThen rfl rfl (Nat.le_add_right _ _)
  case jmp =>
    cases ha : i.arg <;> rw [ha] at h
    case abs w =>
      cases h
      exact accesses_none rfl rfl (Nat.le_add_right _ _)
    case ind ptr =>
      rw [runMnemonic, jumpArg, exec_jmpInd, execJmpInd_eq] at h
      cases h
      exact (accesses_afterReads s _).andThen rfl rfl (Nat.le_add_right _ _)
    all_goals cases h
  case brk =>
    rw [runMnemonic, exec_brk, execBrk_eq] at h
    cases h
    have hframe := accesses_pushFrame s (s.pc + 1) s.flags.pack
    exact (hframe.trans (accesses_mapped _ unmapped_brkVectorReads)).andThen rfl rfl (Nat.le_add_right _ _)
  case pha | php =>
    cases h
    exact (accesses_push s _).andThen rfl rfl (Nat.le_add_right _ _)
  case pla | plp | rts | rti =>
    simp only [runMnemonic, exec_pla, execPla_eq, exec_plp, execPlp_eq, exec_rts, execRts_eq, exec_rti, execRti_eq] at h
    cases h
    exact (accesses_mapped s (by simp)).andThen rfl rfl (Nat.le_add_right _ _)
  case inx | iny | dex | dey | tax | txa | tay | tya | tsx | txs | sec | clc | sei | cli | sed | cld | clv | nop =>
    cases h
    exact accesses_none rfl rfl (Nat.le_add_right _ _)
  case stop =>
    cases h
    exact accesses_none rfl rfl le_rfl

/-- A read sees no store to other cells; ROM and the unmapped region see none at all (R84, R86). -/
theorem Accesses.peek_eq {s t : State} {l m : List Word} (h : Accesses s t l m) (hrom : t.rom = s.rom) {a : Word}
    (ha : ∀ b ∈ m, ¬ sharesCell a b) : t.peek a = s.peek a := by
  by_cases hlow : a.toNat < ramMirrorEnd
  · rw [State.peek_ram s hlow, State.peek_ram t hlow]
    exact h.read_ram _ fun b hb hk => ha b hb ⟨hlow, hk⟩
  · exact State.peek_of_rom hrom (Nat.not_lt.1 hlow)

/-! What a step only extends (R55, R57, R82, R83). -/

/-- ROM and the header stay, `cycles` and the outputs only grow. -/
structure Extends (s t : State) : Prop where
  rom : t.rom = s.rom
  header : t.header = s.header
  cycles : s.cycles ≤ t.cycles
  events : s.events <+: t.events

theorem Extends.trans {s t u : State} (h : Extends s t) (h' : Extends t u) : Extends s u where
  rom := h'.rom.trans h.rom
  header := h'.header.trans h.header
  cycles := h.cycles.trans h'.cycles
  events := h.events.trans h'.events

theorem extends_refl (s : State) : Extends s s := ⟨rfl, rfl, le_rfl, List.prefix_rfl⟩

theorem extends_fetchOpcode (s : State) : Extends s s.fetchOpcode.state := by
  rw [State.fetchOpcode_eq]
  exact ⟨rfl, rfl, le_rfl, List.prefix_append _ _⟩

theorem extends_fetchOperands (form : Form) (s : State) : Extends s (fetchOperands form s).state := by
  obtain ⟨l, w, h⟩ := fetchOperands_state form s
  rw [h]
  exact ⟨rfl, rfl, le_rfl, List.prefix_append _ _⟩

theorem extends_raiseUnknownOpcode (s : State) (op : Byte) (pc0 : Word) : Extends s (s.raiseUnknownOpcode op pc0) :=
  ⟨rfl, rfl, le_rfl, List.prefix_append _ _⟩

theorem exec_rom_header {i : Instr} {s t : State} (h : exec i s = .next t) : t.rom = s.rom ∧ t.header = s.header := by
  obtain ⟨-, -, -, -, -, -, hrom, hheader, -⟩ := registerFrame i s t h
  exact ⟨hrom, hheader⟩

theorem exec_extends {i : Instr} {s t : State} (h : exec i s = .next t) : Extends s t := by
  obtain ⟨hrom, hheader⟩ := exec_rom_header h
  have ha := exec_accesses h
  exact ⟨hrom, hheader, ha.cycles, ha.events ▸ List.prefix_append _ _⟩

theorem stepWith_extends {cfg : Config} (hv : cfg.valid = true) {s t : State} (h : stepWith cfg s = .next t) :
    Extends s t := by
  obtain ⟨-, hs⟩ | ⟨-, -, hs⟩ | ⟨-, form, -, hs⟩ := stepWith_cases hv s
  all_goals rw [hs] at h
  · cases h
    exact extends_refl s
  · cases h
    exact (extends_fetchOpcode s).trans (extends_raiseUnknownOpcode _ _ _)
  · exact (extends_fetchOpcode s).trans ((extends_fetchOperands form _).trans (exec_extends h))

end Sys2Proof.Machine
end

/-! PROOF. The image that a reset loads (R102). -/
section

namespace Sys2Proof.Machine

/-- The program ROM is the image past its header; an image too short reads as 0x00 past its end (R82, R102). -/
theorem initial_rom_read (cfg : Config) (image : List Byte) {k : Nat} (hk : k < romSize) :
    (State.initial cfg image).rom.read k = image.getD (headerSize + k) 0x00 := by
  have hread := Memory.read_ofBytes ((image.drop headerSize).take romSize) 0 k
  rw [Nat.zero_add] at hread
  rw [State.initial, hread]
  simp [List.getElem?_take_of_lt hk]

/-- Bytes past the header and ROM are not loaded (R102). -/
theorem initial_take (cfg : Config) (image : List Byte) :
    State.initial cfg (image.take imageMinSize) = State.initial cfg image := by
  have hheader : (image.take imageMinSize).take headerSize = image.take headerSize := by
    rw [List.take_take, Nat.min_eq_left (by decide)]
  have hrom : ((image.take imageMinSize).drop headerSize).take romSize = (image.drop headerSize).take romSize := by
    rw [imageMinSize, List.drop_take, Nat.add_sub_cancel_left, List.take_take, Nat.min_self]
  rw [State.initial, State.initial, hheader, hrom]

/-- Loading PC reads memory and changes neither header nor ROM (R455). -/
theorem loadResetVector_header (s : State) : s.loadResetVector.header = s.header := by
  rw [State.loadResetVector, State.readWord_eq]
  rfl

theorem loadResetVector_rom (s : State) : s.loadResetVector.rom = s.rom := by
  rw [State.loadResetVector, State.readWord_eq]
  rfl

end Sys2Proof.Machine
end

/-! PROOF. The obligations of 20_memory.md. -/
section

open Sys2Proof Sys2Proof.Machine

/-- Settles O15: fetches, the halt on an unknown opcode and instructions all extend the state, and a longer output list
has longer streams. -/
theorem stepOnlyAppends : Obligations.StepOnlyAppends := by
  intro cfg s t hv h
  obtain ⟨hrom, hheader, hcycles, hevents⟩ := stepWith_extends hv h
  exact ⟨hrom, hheader, hcycles, hevents, hevents.filterMap _, hevents.filterMap _⟩

/-- Settles O20: a reset loads `State.initial`, which reads the first 32784 bytes alone. -/
theorem imageLoading : Obligations.ImageLoading := by
  refine fun cfg image hv => ⟨reset_short hv, fun hl => ⟨_, reset_long hv hl, ?_, fun k hk => ?_⟩, fun hl => ?_⟩
  · exact loadResetVector_header _
  · rw [loadResetVector_rom]
    exact initial_rom_read cfg image hk
  · have hlen : imageMinSize ≤ (image.take 32784).length := by rw [List.length_take, Nat.min_eq_left hl]; rfl
    rw [reset_long hv hl, reset_long hv hlen]
    exact congrArg (fun s : State => (.next s.loadResetVector : Result)) (initial_take cfg image).symm

/-- Settles O23: the invariant makes the cell written read as the byte, even where 0x00 removes its entry. -/
theorem readAfterWrite : Obligations.ReadAfterWrite := by
  intro s a v hw
  obtain ⟨hram, -, -⟩ := (State.wf_iff s).1 hw
  refine ⟨rfl, ?_, State.peek_memWrite hram a v⟩
  rw [State.memWrite_ram, ramIndex, ramSize, Memory.read_write v _ hram, if_pos rfl]

/-- Settles O56: RAM changes in the cells of `storedAddrs` alone, and ROM never does. -/
theorem memoryFrame : Obligations.MemoryFrame := by
  intro i s t h
  have hacc := exec_accesses h
  exact ⟨fun _ ha => hacc.peek_eq (exec_rom_header h).1 ha, hacc.ram_of_no_store⟩

/-- Settles O58: the outputs of an instruction are the reports of its accesses. -/
theorem reportsInReadOrder : Obligations.ReportsInReadOrder :=
  fun _ _ _ h => (exec_accesses h).events

/-- Settles O22, region by region: RAM and its mirrors, ROM, and the unmapped addresses between. -/
theorem memReadMap : Obligations.MemReadMap := by
  intro s a
  split
  · next hlow => exact ⟨State.peek_ram s hlow, State.memRead_state_mapped s ((mapped_iff a).2 (.inl hlow))⟩
  · next hlow =>
    split
    · next hhigh => exact ⟨State.peek_rom s hhigh, State.memRead_state_mapped s ((mapped_iff a).2 (.inr hhigh))⟩
    · next hhigh =>
      have hu : unmapped a = true := (unmapped_iff a).2 ⟨Nat.not_lt.1 hlow, Nat.not_le.1 hhigh⟩
      refine ⟨State.peek_unmapped s hu, ?_⟩
      rw [State.memRead, if_pos hu]
      rfl

end

/-! PROOF. The decoder after the opcode: what each form takes from the bytes that follow, and that an instruction's form
takes exactly its operand bytes (R120 to R123). -/
section

namespace Sys2Proof

/-- The instruction a form makes of the bytes after the opcode, and the bytes it leaves (R122, R364). -/
def Form.complete : Form → List Byte → Decoded
  | .bare i, bytes => .ok i bytes
  | .padded i, bytes => .ok i (bytes.drop 1)
  | .byte f, b :: rest => .ok (f b) rest
  | .word f, l :: h :: rest => .ok (f (Sys2Proof.word h l)) rest
  | .byte _, _ | .word _, _ => .reject .truncated

theorem decode_cons {cfg : Config} {op : Byte} {form : Form} (h : cfg.decodeOpcode op = some form)
    (bytes : List Byte) : decode cfg (op :: bytes) = form.complete bytes := by
  rw [decode, h]
  cases form with
  | bare i => rfl
  | padded i => rfl
  | byte f => cases bytes <;> rfl
  | word f => rcases bytes with _ | ⟨l, _ | ⟨h, rest⟩⟩ <;> rfl

/-- A byte string is accepted when its opcode is known and the form of the opcode accepts the rest. -/
theorem decode_ok {cfg : Config} {bytes : List Byte} {i : Instr} {rest : List Byte}
    (h : decode cfg bytes = .ok i rest) :
    ∃ op tail form, bytes = op :: tail ∧ cfg.decodeOpcode op = some form ∧ form.complete tail = .ok i rest := by
  cases bytes with
  | nil => cases h
  | cons op tail =>
    cases hd : cfg.decodeOpcode op with
    | none => rw [decode, hd] at h; cases h
    | some form => exact ⟨op, tail, form, rfl, hd, decode_cons hd tail ▸ h⟩

/-- The form makes the instruction of some operand. -/
def Form.Makes (i : Instr) : Form → Prop
  | .bare j | .padded j => j = i
  | .byte f => ∃ b, f b = i
  | .word f => ∃ w, f w = i

theorem Instr.form_makes (i : Instr) : i.form.Makes i := by
  cases i <;> simp [Instr.form, Form.Makes]

/-- A row of the table reads back the operand bytes of every instruction it makes. -/
theorem Form.complete_bytes {op : Byte} {form : Form} {i : Instr} (hd : form.Describes op) (hm : form.Makes i)
    (rest : List Byte) : form.complete (i.arg.bytes ++ rest) = .ok i rest := by
  cases form with
  | bare j =>
    obtain rfl := hm
    obtain ⟨-, hbytes, -⟩ := hd
    rw [hbytes]; rfl
  | padded j =>
    obtain rfl := hm
    obtain ⟨rfl, -⟩ := hd
    rfl
  | byte f =>
    obtain ⟨b, rfl⟩ := hm
    obtain ⟨-, hbytes, -⟩ := hd b
    rw [hbytes]; rfl
  | word f =>
    obtain ⟨w, rfl⟩ := hm
    obtain ⟨-, hbytes, -⟩ := hd w
    rw [hbytes]
    exact congrArg (fun v => Decoded.ok (f v) rest) (Machine.word_hi_lo w)

/-- What a row of the table accepts is an instruction of its opcode with its operand bytes; BRK alone takes a byte that
is no operand (R364). -/
theorem Form.complete_ok {op : Byte} {form : Form} {tail : List Byte} {i : Instr} {rest : List Byte}
    (hd : form.Describes op) (h : form.complete tail = .ok i rest) :
    (∀ cfg, i.opcode cfg = op) ∧
      ((i ≠ .brk ∧ tail = i.arg.bytes ++ rest) ∨ (i = .brk ∧ rest = tail.drop 1)) := by
  cases form with
  | bare j =>
    obtain ⟨hop, hbytes, -, -, hbrk⟩ := hd
    cases h
    exact ⟨hop, .inl ⟨hbrk, by rw [hbytes]; rfl⟩⟩
  | padded j =>
    obtain ⟨rfl, rfl⟩ := hd
    cases h
    exact ⟨fun _ => rfl, .inr ⟨rfl, rfl⟩⟩
  | byte f =>
    obtain _ | ⟨b, tail⟩ := tail
    · cases h
    obtain ⟨hop, hbytes, -, -, hbrk⟩ := hd b
    cases h
    exact ⟨hop, .inl ⟨hbrk, by rw [hbytes]; rfl⟩⟩
  | word f =>
    obtain _ | ⟨l, _ | ⟨h', tail⟩⟩ := tail
    · cases h
    · cases h
    obtain ⟨hop, hbytes, -, -, hbrk⟩ := hd (Sys2Proof.word h' l)
    cases h
    exact ⟨hop, .inl ⟨hbrk, by rw [hbytes, Machine.lo_word, Machine.hi_word]; rfl⟩⟩

theorem supports_of_decodeOpcode {cfg : Config} {op : Byte} {form : Form} (h : cfg.decodeOpcode op = some form) :
    cfg.supports op = true := by
  rw [← Bool.not_eq_false, ← decodeOpcode_eq_none, h]
  exact nofun

end Sys2Proof
end

/-! PROOF. The unassigned bytes (R151, R152). -/
section

namespace Sys2Proof

/-- The list of R152 is what the opcode map leaves of the 256 bytes, in their order. -/
theorem unassignedBytes_eq_filter :
    unassignedBytes = ((List.range 256).map (BitVec.ofNat 8)).filter (!documented ·) := by
  decide

theorem documented_eq_false_iff (op : Byte) : documented op = false ↔ op ∈ unassignedBytes := by
  have hop : op ∈ (List.range 256).map (BitVec.ofNat 8) :=
    List.mem_map.2 ⟨op.toNat, List.mem_range.2 op.isLt, by rw [BitVec.ofNat_toNat, BitVec.setWidth_eq]⟩
  rw [unassignedBytes_eq_filter, List.mem_filter, Bool.not_eq_true', and_iff_right hop]

theorem valid_iff (cfg : Config) : cfg.valid = true ↔ documented cfg.stopOpcode = false := by
  rw [Config.valid, Bool.not_eq_true']

theorem valid_eq_false_iff (cfg : Config) : cfg.valid = false ↔ documented cfg.stopOpcode = true := by
  rw [Config.valid, Bool.not_eq_false']

/-- An unassigned byte is unknown unless it is the stop opcode (R152). -/
theorem decodeOpcode_unassigned {cfg : Config} {op : Byte} (h : documented op = false) (ho : op ≠ cfg.stopOpcode) :
    cfg.decodeOpcode op = none := by
  rw [decodeOpcode_eq_none, Config.supports, h, beq_false_of_ne ho]
  rfl

end Sys2Proof
end

/-! PROOF. Effective addresses in integers (R129 to R138). -/
section

namespace Sys2Proof.Machine

/-- An indexed address wraps at 16 bits (R133, R134, R137). -/
theorem indexed_ea_toNat (base : Word) (index : Byte) (s : State) :
    (indexed base index s).ea.toNat = (base.toNat + index.toNat) % 65536 := by
  have hi := index.isLt
  rw [indexed, BitVec.toNat_add, BitVec.toNat_setWidth, Nat.mod_eq_of_lt (a := index.toNat) (by omega)]

/-- An indexed address is crossed when its page is not that of the base (R133, R134, R137). -/
theorem indexed_crossed_iff (base : Word) (index : Byte) (s : State) :
    (indexed base index s).crossed = true ↔ base.toNat / 256 ≠ (indexed base index s).ea.toNat / 256 :=
  pageDiffers_iff base _

/-- The zero page is in RAM (R84, R90). -/
theorem State.peek_zeroPage (s : State) (z : Byte) : s.peek (zeroPage z) = s.ram.read z.toNat := by
  have hz := z.isLt
  rw [State.peek_ram s (by rw [toNat_zeroPage]; omega), toNat_zeroPage, Nat.mod_eq_of_lt (by omega)]

/-- A pointer's high byte is in the next cell of the zero page, wrapped (R136, R137). -/
theorem State.readPointer_value (s : State) (z : Byte) :
    (s.readPointer z).value = word (s.ram.read ((z.toNat + 1) % 256)) (s.ram.read z.toNat) := by
  rw [State.readPointer_eq, State.peek_zeroPage, State.peek_zeroPage, BitVec.toNat_add]
  rfl

theorem word_page (h l : Byte) : (word h l).toNat / 256 = h.toNat := by
  have hl := l.isLt
  rw [toNat_word]; omega

/-- A branch target in integers: the offset is signed (R138). -/
theorem branchTarget_eq_ofInt (pc : Word) (off : Byte) :
    branchTarget pc off = BitVec.ofInt 16 (pc.toNat + off.toInt) := by
  rw [BitVec.ofInt_add, BitVec.ofInt_natCast, BitVec.ofNat_toNat, BitVec.setWidth_eq]
  rfl

end Sys2Proof.Machine
end

/-! PROOF. The obligations of 30_encoding.md. -/
section

open Sys2Proof Sys2Proof.Machine

/-- Settles O1: an opcode decodes to its instruction's form, and the form reads the operand bytes back. -/
theorem decodeOfEncode : Obligations.DecodeOfEncode := by
  intro cfg hv i hw rest
  rw [encode, List.cons_append, decode_cons (decodeOpcode_opcode hv hw)]
  by_cases hi : i = .stop
  · subst hi
    rfl
  · exact Form.complete_bytes (documentedForm_describes (documentedForm_opcode cfg i hi)) i.form_makes rest

/-- Settles O2: an accepted opcode is the stop opcode or has a row of the table, which accepts its own encodings
alone, with any pad byte for BRK. -/
theorem encodeOfDecode : Obligations.EncodeOfDecode := by
  intro cfg _ bytes i rest h
  obtain ⟨op, tail, form, rfl, hd, hc⟩ := decode_ok h
  have hs := supports_of_decodeOpcode hd
  obtain ⟨rfl, rfl⟩ | ⟨-, hf⟩ := decodeOpcode_some hd
  · cases hc
    exact ⟨hs, .inl ⟨nofun, rfl⟩⟩
  · obtain ⟨hop, hbytes⟩ := Form.complete_ok (documentedForm_describes hf) hc
    obtain rfl := hop cfg
    refine ⟨hs, hbytes.imp (fun ⟨hi, ht⟩ => ⟨hi, by rw [ht]; rfl⟩) ?_⟩
    rintro ⟨rfl, hrest⟩
    exact ⟨rfl, tail, rfl, hrest⟩

/-- Settles O4: the list is the complement of the table, and an unknown opcode halts the core that fetches it. -/
theorem unassignedBytesHalt : Obligations.UnassignedBytesHalt := by
  refine ⟨rfl, documented_eq_false_iff, fun cfg hv => ⟨?_, fun op hop ho => ?_⟩⟩
  · exact (documented_eq_false_iff _).1 ((valid_iff cfg).1 hv)
  · have hd := decodeOpcode_unassigned ((documented_eq_false_iff op).2 hop) ho
    exact ⟨hd, fun s hh hp => ⟨_, stepWith_unknown hv hh (hp.symm ▸ hd), rfl⟩⟩

/-- Settles O26: both pointers are words of zero-page cells, and `indy` indexes its word. -/
theorem pointerModes : Obligations.PointerModes := by
  intro s z
  refine ⟨?_, AddrForm.indx_crossed z s, ?_, ?_⟩
  · rw [AddrForm.resolve, State.readPointer_value, toNat_word, BitVec.toNat_add, Nat.mod_add_mod]
  · rw [AddrForm.resolve, indexed_ea_toNat, State.readPointer_value, toNat_word]
  · rw [AddrForm.resolve, indexed_crossed_iff, State.readPointer_value, word_page]

/-- Settles O3, by running the decoder. -/
theorem sampleWordsDecode : Obligations.SampleWordsDecode := by
  unfold Obligations.SampleWordsDecode
  decide

/-- Settles O6: a configuration is valid exactly when its stop opcode is not documented. -/
theorem stopOpcodeIsUnassigned : Obligations.StopOpcodeIsUnassigned := by
  refine ⟨rfl, rfl, fun cfg => ⟨rfl, fun hd => ?_⟩⟩
  have hv := (valid_eq_false_iff cfg).2 hd
  exact ⟨stepWith_invalid hv, reset_invalid hv⟩

/-- Settles O25: a zero-page sum wraps at 8 bits, an indexed word at 16, and no mode changes the state. -/
theorem directModes : Obligations.DirectModes := by
  refine ⟨fun s z => ?_, fun s w => ?_, AddrForm.resolve_state, branchTarget_eq_ofInt⟩
  · refine ⟨toNat_zeroPage z, ?_, ?_, rfl, rfl, rfl⟩
    · rw [AddrForm.resolve, toNat_zeroPage, BitVec.toNat_add]
    · rw [AddrForm.resolve, toNat_zeroPage, BitVec.toNat_add]
  · exact ⟨rfl, rfl, indexed_ea_toNat w s.x s, indexed_ea_toNat w s.y s, indexed_crossed_iff w s.x s,
      indexed_crossed_iff w s.y s⟩

end

/-! PROOF. The encodings of a mnemonic: an encoding line does not depend on the operand bytes, so the lines of all
instructions are those of the opcode map's entries, each with one operand (R150, R151). -/
section

namespace Sys2Proof

/-- An instruction of the form, with the operand 0. -/
def Form.sample : Form → Instr
  | .bare i | .padded i => i
  | .byte f => f 0x00
  | .word f => f 0x0000

/-- An instruction for every entry of the opcode map, in the order of the opcodes, and STOP. -/
def sampleInstrs : List Instr := opcodeMap.flatten.map (·.2.sample) ++ [.stop]

/-- The encoding lines of a mnemonic, in the order of the opcodes. -/
def Mnemonic.encodings (m : Mnemonic) : List EncRow :=
  (sampleInstrs.filter (·.mnemonic == m)).map Instr.encRow

/-- Mnemonic and encoding line are the same for every operand. -/
theorem Instr.form_sample (i : Instr) :
    i.form.sample.mnemonic = i.mnemonic ∧ i.form.sample.encRow = i.encRow := by
  cases i <;> exact ⟨rfl, rfl⟩

theorem mem_opcodeMap {op : Byte} {form : Form} (h : documentedForm op = some form) :
    (op, form) ∈ opcodeMap.flatten := by
  have hrow : op.toNat / 16 < opcodeMap.length := Nat.div_lt_of_lt_mul op.isLt
  rw [documentedForm, List.getD_eq_getElem _ _ hrow] at h
  exact List.mem_flatten_of_mem (List.getElem_mem hrow) (mem_of_lookup h)

theorem Instr.form_sample_mem (i : Instr) : i.form.sample ∈ sampleInstrs := by
  by_cases hi : i = .stop
  · subst hi
    exact List.mem_append_right _ (List.mem_singleton_self _)
  · have hmap := mem_opcodeMap (documentedForm_opcode Config.default i hi)
    exact List.mem_append_left _ (List.mem_map.2 ⟨_, hmap, rfl⟩)

/-- The samples give a mnemonic exactly its encodings. -/
theorem hasRows_encodings (m : Mnemonic) : HasRows m m.encodings := by
  refine ⟨fun i hi => ?_, fun r hr => ?_⟩
  · obtain ⟨hm, hrow⟩ := i.form_sample
    have hsame := (beq_iff_eq (a := i.form.sample.mnemonic)).2 (hm.trans hi)
    exact List.mem_map.2 ⟨_, List.mem_filter.2 ⟨i.form_sample_mem, hsame⟩, hrow⟩
  · obtain ⟨i, hmem, hrow⟩ := List.mem_map.1 hr
    exact ⟨i, beq_iff_eq.1 (List.mem_filter.1 hmem).2, hrow⟩

end Sys2Proof
end

/-! PROOF. An instruction with a memory operand completes, by mnemonic: what the mnemonic does to the operand at the
base cost, and the page penalty of the reading ones (R139, R470 to R472). -/
section

namespace Sys2Proof

/-- The mnemonics that read one operand and store nothing (R201 to R203, R222, R240, R300). -/
def Mnemonic.readsOperand : Mnemonic → Bool
  | .lda | .ldx | .ldy | .adc | .sbc | .and | .ora | .eor | .cmp | .cpx | .cpy | .bit => true
  | _ => false

/-- The mnemonics that store to memory in every form (R204 to R206, R280, R281). -/
def Mnemonic.storesOperand : Mnemonic → Bool
  | .sta | .stx | .sty | .inc | .dec => true
  | _ => false

theorem Instr.source_isSome_of_reads (i : Instr) :
    (!i.mnemonic.readsOperand || i.arg.source.isSome) = true := by
  cases i <;> rfl

theorem Instr.addrForm_isSome_of_stores (i : Instr) :
    (!i.mnemonic.storesOperand || i.arg.addrForm.isSome) = true := by
  cases i <;> rfl

theorem Instr.exists_source {i : Instr} (hr : i.mnemonic.readsOperand = true) : ∃ src, i.arg.source = some src := by
  have h := i.source_isSome_of_reads
  rw [hr] at h
  exact Option.isSome_iff_exists.1 h

theorem Instr.exists_addrForm {i : Instr} (hw : i.mnemonic.storesOperand = true) :
    ∃ f, i.arg.addrForm = some f := by
  have h := i.addrForm_isSome_of_stores
  rw [hw] at h
  exact Option.isSome_iff_exists.1 h

/-- The modes whose effective address may lie on another page than its base (R133, R134, R137). -/
def Mode.indexesWord (m : Mode) : Bool := [Mode.absx, .absy, .indy].contains m

/-- Every reading instruction pays the page penalty in the indexed modes: CPX, CPY and BIT have none of them (R472). -/
theorem Instr.pagePenalty_and_reads (i : Instr) :
    (i.mnemonic.readsOperand && i.pagePenalty) = (i.mnemonic.readsOperand && i.arg.mode.indexesWord) := by
  cases i <;> rfl

theorem Instr.pagePenalty_of_reads {i : Instr} (hr : i.mnemonic.readsOperand = true) :
    i.pagePenalty = i.arg.mode.indexesWord := by
  have h := i.pagePenalty_and_reads
  rwa [hr, Bool.true_and, Bool.true_and] at h

end Sys2Proof

namespace Sys2Proof.Machine

/-- The other modes never cross a page (R125). -/
theorem indexesWord_and_crossed (i : Instr) (s : State) :
    (i.arg.mode.indexesWord && crossed i s) = crossed i s := by
  rw [crossed]
  cases i.arg <;> rfl

theorem crossed_of_source {i : Instr} {src : Source} (hs : i.arg.source = some src) (s : State) :
    crossed i s = (src.read s).crossed := by
  obtain ⟨b, rfl, ha⟩ | ⟨f, rfl, ha⟩ := Arg.source_cases hs
  · rw [crossed, ha]; rfl
  · rw [crossed, ha]; rfl

/-- A branch has no operand to read (R138). -/
theorem branchExtra_of_source {i : Instr} {src : Source} (hs : i.arg.source = some src) (s : State) :
    branchExtra i s = 0 := by
  rw [branchExtra]
  split
  · next off ha => rw [ha] at hs; cases hs
  · rfl

/-- A reading instruction costs its base cost, and one more when its address crosses a page (R139, R472). -/
theorem cost_of_source {i : Instr} {src : Source} (hr : i.mnemonic.readsOperand = true)
    (hs : i.arg.source = some src) (s : State) : cost i s = i.baseCost + (src.read s).crossed.toNat := by
  rw [cost, Instr.pagePenalty_of_reads hr, indexesWord_and_crossed, crossed_of_source hs, branchExtra_of_source hs,
    Nat.add_zero]

theorem State.readDone_baseCost {i : Instr} {src : Source} (hr : i.mnemonic.readsOperand = true)
    (hs : i.arg.source = some src) (s : State) :
    s.readDone src i.baseCost = { s.afterReads (src.addrs s) with cycles := s.cycles + cost i s } := by
  rw [cost_of_source hr hs]
  rfl

/-- An instruction of a reading mnemonic is its operation on its operand, in every form; what the operation leaves by
`State.readDone` is the report of the read and the cost. -/
theorem exec_reading {m : Mnemonic} {op : Source → Nat → State → Result} (hr : m.readsOperand = true)
    (hrun : ∀ arg n s, runMnemonic m arg n s = withOperand arg.source fun src => op src n s) {i : Instr}
    (hm : i.mnemonic = m) (s : State) :
    ∃ src, i.arg.source = some src ∧ exec i s = op src i.baseCost s ∧
      s.readDone src i.baseCost = { s.afterReads (src.addrs s) with cycles := s.cycles + cost i s } := by
  subst hm
  obtain ⟨src, hs⟩ := Instr.exists_source hr
  refine ⟨src, hs, ?_, State.readDone_baseCost hr hs s⟩
  rw [exec_eq_runMnemonic, hrun, hs]
  rfl

/-- An instruction of a storing mnemonic is its operation on its memory form, in every form. -/
theorem exec_storing {m : Mnemonic} {op : AddrForm → Nat → State → Result} (hw : m.storesOperand = true)
    (hrun : ∀ arg n s, runMnemonic m arg n s = withOperand arg.addrForm fun f => op f n s) {i : Instr}
    (hm : i.mnemonic = m) (s : State) : ∃ f, i.arg.addrForm = some f ∧ exec i s = op f i.baseCost s := by
  subst hm
  obtain ⟨f, hf⟩ := Instr.exists_addrForm hw
  refine ⟨f, hf, ?_⟩
  rw [exec_eq_runMnemonic, hrun, hf]
  rfl

end Sys2Proof.Machine
end

/-! PROOF. The obligations of 40_load_store.md. -/
section

open Sys2Proof Sys2Proof.Machine

/-- Settles O33: the encodings are the lines of the opcode map, and each load is its operation on the operand read. -/
theorem loadInstructions : Obligations.LoadInstructions := by
  refine ⟨hasRows_encodings .lda, hasRows_encodings .ldx, hasRows_encodings .ldy, fun i s hm => ?_, fun i s hm => ?_,
    fun i s hm => ?_⟩
  · obtain ⟨src, hs, hexec, hdone⟩ := exec_reading (op := loadA) rfl (fun _ _ _ => rfl) hm s
    exact ⟨src, hs, by rw [hexec, loadA_eq, hdone]⟩
  · obtain ⟨src, hs, hexec, hdone⟩ := exec_reading (op := loadX) rfl (fun _ _ _ => rfl) hm s
    exact ⟨src, hs, by rw [hexec, loadX_eq, hdone]⟩
  · obtain ⟨src, hs, hexec, hdone⟩ := exec_reading (op := loadY) rfl (fun _ _ _ => rfl) hm s
    exact ⟨src, hs, by rw [hexec, loadY_eq, hdone]⟩

/-- Settles O34: the encodings are the lines of the opcode map, and each store is its write at the resolved address. -/
theorem storeInstructions : Obligations.StoreInstructions := by
  refine ⟨hasRows_encodings .sta, hasRows_encodings .stx, hasRows_encodings .sty, fun i s hm => ?_, fun i s hm => ?_,
    fun i s hm => ?_⟩
  · obtain ⟨f, hf, hexec⟩ := exec_storing (op := storeA) rfl (fun _ _ _ => rfl) hm s
    exact ⟨f, hf, hexec.trans (storeA_eq f _ s)⟩
  · obtain ⟨f, hf, hexec⟩ := exec_storing (op := storeX) rfl (fun _ _ _ => rfl) hm s
    exact ⟨f, hf, hexec.trans (storeX_eq f _ s)⟩
  · obtain ⟨f, hf, hexec⟩ := exec_storing (op := storeY) rfl (fun _ _ _ => rfl) hm s
    exact ⟨f, hf, hexec.trans (storeY_eq f _ s)⟩

end

/-! PROOF. The adder in integers (R220, R221): the sum modulo 256, the carry, the overflow by the three sign bits, and
the subtraction as the addition of the complement, whose signed value is `-m - 1`. -/
section

namespace Sys2Proof

/-- The mask 0x80 picks the sign bit. -/
theorem and_signMask_ne_zero_iff (v : Byte) : (v &&& 0x80) ≠ 0x00 ↔ v.msb = true := by
  have hmask : (0x80 : Byte) = BitVec.twoPow 8 7 := rfl
  rw [hmask, BitVec.and_twoPow, BitVec.msb_eq_getLsbD_last]
  cases v.getLsbD 7 <;> decide

/-- The signed value of a complement. -/
theorem toInt_complement (m : Byte) : (~~~m).toInt = -m.toInt - 1 := by
  have hm := m.isLt
  rw [BitVec.toInt_eq_toNat_cond, BitVec.toInt_eq_toNat_cond, BitVec.toNat_not]
  split <;> split <;> omega

theorem adc8_value (a m : Byte) (c : Bool) : (adc8 a m c).value = a + m + BitVec.ofNat 8 c.toNat := by
  rw [adc8, BitVec.ofNat_add, BitVec.ofNat_add, BitVec.ofNat_toNat, BitVec.ofNat_toNat, BitVec.setWidth_eq,
    BitVec.setWidth_eq]

theorem adc8_false_value (a m : Byte) : (adc8 a m false).value = a + m :=
  (adc8_value a m false).trans (add_zero _)

theorem adc8_value_toNat (a m : Byte) (c : Bool) :
    (adc8 a m c).value.toNat = (a.toNat + m.toNat + c.toNat) % 256 :=
  BitVec.toNat_ofNat _ 8

theorem adc8_carry (a m : Byte) (c : Bool) :
    (adc8 a m c).carry = decide (a.toNat + m.toNat + c.toNat > 255) := rfl

theorem adc8_overflow (a m : Byte) (c : Bool) :
    (adc8 a m c).overflow = decide ((~~~(a ^^^ m) &&& (a ^^^ (adc8 a m c).value) &&& 0x80) ≠ 0x00) :=
  (decide_not ..).symm

/-- An addition overflows when both operands have one sign and the result the other. -/
theorem adc8_overflow_iff_msb (a m : Byte) (c : Bool) :
    (adc8 a m c).overflow = true ↔ a.msb = m.msb ∧ a.msb ≠ (adc8 a m c).value.msb := by
  rw [adc8_overflow, decide_eq_true_iff, and_signMask_ne_zero_iff, BitVec.msb_and, BitVec.msb_not, BitVec.msb_xor,
    BitVec.msb_xor]
  cases a.msb <;> cases m.msb <;> simp

/-- An addition overflows when the signed sum does not fit a byte (R220). -/
theorem adc8_overflow_iff (a m : Byte) (c : Bool) :
    (adc8 a m c).overflow = true ↔
      a.toInt + m.toInt + c.toNat < -128 ∨ 127 < a.toInt + m.toInt + c.toNat := by
  have ha := a.isLt; have hm := m.isLt; have hc := c.toNat_lt
  rw [adc8_overflow_iff_msb, BitVec.msb_eq_decide, BitVec.msb_eq_decide, BitVec.msb_eq_decide, adc8_value_toNat,
    BitVec.toInt_eq_toNat_cond, BitVec.toInt_eq_toNat_cond, Ne, decide_eq_decide, decide_eq_decide]
  split <;> split <;> omega

theorem sbc8_value (a m : Byte) (c : Bool) : (sbc8 a m c).value = (adc8 a (~~~m) c).value := rfl

theorem sbc8_carry (a m : Byte) (c : Bool) : (sbc8 a m c).carry = (adc8 a (~~~m) c).carry := rfl

theorem sbc8_overflow (a m : Byte) (c : Bool) :
    (sbc8 a m c).overflow = decide (((a ^^^ (sbc8 a m c).value) &&& (a ^^^ m) &&& 0x80) ≠ 0x00) :=
  (decide_not ..).symm

/-- The two overflow tests of R221 are one: `~(a ^ ~m)` is `a ^ m`. -/
theorem sbc8_overflow_eq_adc8 (a m : Byte) (c : Bool) : (sbc8 a m c).overflow = (adc8 a (~~~m) c).overflow := by
  rw [sbc8_overflow, adc8_overflow, sbc8_value, BitVec.not_xor_right, BitVec.not_not, BitVec.and_comm (a ^^^ m)]

theorem sbc8_true_value (a m : Byte) : (sbc8 a m true).value = a - m := by
  have hneg : -m = ~~~m + BitVec.ofNat 8 true.toNat := BitVec.neg_eq_not_add m
  rw [sbc8_value, adc8_value, add_assoc, ← hneg, ← sub_eq_add_neg]

theorem sbc8_false_value (a m : Byte) : (sbc8 a m false).value = a - m - 1 := by
  rw [sbc8_value, adc8_false_value, BitVec.not_eq_neg_add, ← add_sub_assoc, ← sub_eq_add_neg]
  rfl

theorem sbc8_true_carry (a m : Byte) : (sbc8 a m true).carry = decide (m.toNat ≤ a.toNat) := by
  have hm := m.isLt
  rw [sbc8_carry, adc8_carry, BitVec.toNat_not, decide_eq_decide, Bool.toNat_true]
  omega

theorem sbc8_false_carry (a m : Byte) : (sbc8 a m false).carry = decide (m.toNat < a.toNat) := by
  have hm := m.isLt
  rw [sbc8_carry, adc8_carry, BitVec.toNat_not, decide_eq_decide, Bool.toNat_false]
  omega

/-- A subtraction overflows when the signed difference does not fit a byte (R221). -/
theorem sbc8_overflow_iff (a m : Byte) (c : Bool) :
    (sbc8 a m c).overflow = true ↔
      a.toInt - m.toInt - (!c).toNat < -128 ∨ 127 < a.toInt - m.toInt - (!c).toNat := by
  have hborrow : ((!c).toNat : Int) = 1 - c.toNat := by cases c <;> rfl
  have hdiff : a.toInt + (~~~m).toInt + c.toNat = a.toInt - m.toInt - (!c).toNat := by
    rw [toInt_complement, hborrow]
    ring
  rw [sbc8_overflow_eq_adc8, adc8_overflow_iff, hdiff]

/-- A subtraction without a borrow undoes an addition without a carry-in (R225). -/
theorem sbc8_true_adc8 (a b : Byte) : (sbc8 (adc8 a b false).value b true).value = a := by
  rw [sbc8_true_value, adc8_false_value, add_sub_cancel_right]

/-- With a borrow it leaves one less (R225). -/
theorem sbc8_false_adc8 (a b : Byte) : (sbc8 (adc8 a b false).value b false).value = a - 1 := by
  rw [sbc8_false_value, adc8_false_value, add_sub_cancel_right]

end Sys2Proof
end

/-! PROOF. ADC and SBC leave D alone and do not look at it (R222). -/
section

namespace Sys2Proof.Machine

/-- The state with D at a given value. -/
def State.setDecimal (s : State) (b : Bool) : State := { s with flags := { s.flags with d := b } }

/-- The resolver reads registers and memory, no flags (R125). -/
theorem AddrForm.resolve_setDecimal (f : AddrForm) (s : State) (b : Bool) :
    f.resolve (s.setDecimal b) = { f.resolve s with state := s.setDecimal b } := by
  cases f <;> simp only [AddrForm.resolve, State.readPointer_eq] <;> rfl

theorem Source.read_setDecimal (src : Source) (s : State) (b : Bool) :
    src.read (s.setDecimal b) = { src.read s with state := (src.read s).state.setDecimal b } := by
  cases src with
  | imm m => rfl
  | mem f =>
    simp only [Source.read, AddrForm.resolve_setDecimal, AddrForm.resolve_state, State.memRead_state]
    rfl

/-- A reading instruction ignores D when its effect does. -/
theorem readThen_setDecimal {effect : State → Byte → State}
    (heffect : ∀ u m b, effect (u.setDecimal b) m = (effect u m).setDecimal b) {src : Source} {n : Nat} {s t : State}
    (h : readThen src n effect s = .next t) (b : Bool) :
    readThen src n effect (s.setDecimal b) = .next (t.setDecimal b) := by
  cases h
  simp only [readThen, Source.read_setDecimal, heffect]
  rfl

/-- So does every form of a mnemonic that reads its operand with such an effect. -/
theorem exec_setDecimal {m : Mnemonic} {effect : State → Byte → State}
    (hrun : ∀ arg n s, runMnemonic m arg n s = withOperand arg.source fun src => readThen src n effect s)
    (heffect : ∀ u v b, effect (u.setDecimal b) v = (effect u v).setDecimal b) {i : Instr} (hm : i.mnemonic = m)
    {s t : State} (h : exec i s = .next t) (b : Bool) : exec i (s.setDecimal b) = .next (t.setDecimal b) := by
  rw [exec_eq_runMnemonic, hm, hrun] at h ⊢
  obtain ⟨src, hs, h⟩ := withOperand_next h
  rw [hs]
  exact readThen_setDecimal heffect h b

end Sys2Proof.Machine
end

/-! PROOF. The obligations of 41_arithmetic.md. -/
section

open Sys2Proof Sys2Proof.Machine

/-- Settles O29, by the value, the carry and the two readings of the overflow. -/
theorem adcInIntegers : Obligations.AdcInIntegers :=
  fun a m c => ⟨adc8_value_toNat a m c, adc8_carry a m c, adc8_overflow a m c, adc8_overflow_iff a m c⟩

/-- Settles O30: the carry in is the inverted borrow, for the complement is `-m - 1`. -/
theorem sbcInIntegers : Obligations.SbcInIntegers :=
  fun a m c => ⟨sbc8_value a m c, sbc8_carry a m c, sbc8_overflow a m c, sbc8_overflow_eq_adc8 a m c,
    sbc8_true_value a m, sbc8_true_carry a m, sbc8_false_value a m, sbc8_false_carry a m, sbc8_overflow_iff a m c⟩

/-- Settles O31: the carry-out is set exactly when the sum exceeds 255, and clear it takes one too many off. -/
theorem adcSbcRoundTrip : Obligations.AdcSbcRoundTrip := by
  refine fun a b => ⟨sbc8_true_adc8 a b, ?_⟩
  have hcarry : (adc8 a b false).carry = true ↔ a.toNat + b.toNat > 255 := decide_eq_true_iff
  rw [← hcarry]
  cases (adc8 a b false).carry with
  | true => exact iff_of_true (sbc8_true_adc8 a b) rfl
  | false =>
    have hne : a - 1 ≠ a := sub_eq_self.not.2 (by decide)
    exact iff_of_false (by rwa [sbc8_false_adc8]) nofun

/-- Settles O32: neither the operand read nor the effect of a sum depends on D. -/
theorem decimalFlagIsIgnored : Obligations.DecimalFlagIsIgnored := by
  intro i s t b hi h
  obtain hm | hm := hi
  · exact exec_setDecimal (fun _ _ _ => rfl) (fun _ _ _ => rfl) hm h b
  · exact exec_setDecimal (fun _ _ _ => rfl) (fun _ _ _ => rfl) hm h b

/-- Settles O35: the encodings are the lines of the opcode map, and each instruction is its sum on the operand read. -/
theorem addAndSubtractInstructions : Obligations.AddAndSubtractInstructions := by
  refine ⟨hasRows_encodings .adc, hasRows_encodings .sbc, fun i s hm => ?_, fun i s hm => ?_⟩
  · obtain ⟨src, hs, hexec, hdone⟩ := exec_reading (op := addToA) rfl (fun _ _ _ => rfl) hm s
    exact ⟨src, hs, by rw [hexec, addToA_eq, hdone, Flags.withSum]⟩
  · obtain ⟨src, hs, hexec, hdone⟩ := exec_reading (op := subFromA) rfl (fun _ _ _ => rfl) hm s
    exact ⟨src, hs, by rw [hexec, subFromA_eq, hdone, Flags.withSum]⟩

end

/-! PROOF. The obligation of 42_logical.md. -/
section

open Sys2Proof Sys2Proof.Machine

/-- Settles O36: the encodings are the lines of the opcode map, and each instruction is its bitwise operation on the
operand read. -/
theorem logicalInstructions : Obligations.LogicalInstructions := by
  refine ⟨hasRows_encodings .and, hasRows_encodings .ora, hasRows_encodings .eor, fun i s hm => ?_, fun i s hm => ?_,
    fun i s hm => ?_⟩
  · obtain ⟨src, hs, hexec, hdone⟩ := exec_reading (op := andA) rfl (fun _ _ _ => rfl) hm s
    exact ⟨src, hs, by rw [hexec, andA_eq, hdone]⟩
  · obtain ⟨src, hs, hexec, hdone⟩ := exec_reading (op := orA) rfl (fun _ _ _ => rfl) hm s
    exact ⟨src, hs, by rw [hexec, orA_eq, hdone]⟩
  · obtain ⟨src, hs, hexec, hdone⟩ := exec_reading (op := eorA) rfl (fun _ _ _ => rfl) hm s
    exact ⟨src, hs, by rw [hexec, eorA_eq, hdone]⟩

end

/-! PROOF. The shifts and rotates in integers (R261 to R264): a bit shifted in stands where the shift left a 0, so the
`or` that puts it there is an addition. -/
section

namespace Sys2Proof

/-- The byte operation that `Mnemonic.shifted` states in integers. -/
def Mnemonic.shiftOp (m : Mnemonic) (v : Byte) (c : Bool) : Shifted := ⟨(m.shifted v c).1, (m.shifted v c).2⟩

theorem getLsbD_zero_eq_odd (v : Byte) : v.getLsbD 0 = decide (v.toNat % 2 = 1) := Nat.testBit_zero v.toNat

theorem shiftLeft_one_eq_ofNat (v : Byte) : v <<< 1 = BitVec.ofNat 8 (2 * v.toNat) := by
  apply BitVec.eq_of_toNat_eq
  rw [BitVec.toNat_shiftLeft, BitVec.toNat_ofNat, Nat.shiftLeft_eq, Nat.mul_comm, pow_one]

theorem shiftRight_one_eq_ofNat (v : Byte) : v >>> 1 = BitVec.ofNat 8 (v.toNat / 2) := by
  apply BitVec.eq_of_toNat_eq
  have hv := v.isLt
  rw [BitVec.toNat_ushiftRight, BitVec.toNat_ofNat, Nat.shiftRight_eq_div_pow, pow_one]
  omega

theorem carry_shiftLeft_seven (c : Bool) : BitVec.ofNat 8 c.toNat <<< 7 = BitVec.ofNat 8 (128 * c.toNat) := by
  cases c <;> rfl

/-- A left shift leaves bit 0 free for the carry. -/
theorem shiftLeft_one_and_carry (v : Byte) (c : Bool) : (v <<< 1) &&& BitVec.ofNat 8 c.toNat = 0#8 := by
  cases c with
  | false => exact BitVec.and_zero
  | true => exact (BitVec.and_twoPow _ 0).trans (by rw [BitVec.getLsbD_shiftLeft]; rfl)

/-- A right shift leaves bit 7 free for the carry. -/
theorem shiftRight_one_and_carry (v : Byte) (c : Bool) :
    (v >>> 1) &&& (BitVec.ofNat 8 c.toNat <<< 7) = 0#8 := by
  cases c with
  | false => exact BitVec.and_zero
  | true =>
    have hbit : (v >>> 1).getLsbD 7 = false := by
      rw [BitVec.getLsbD_ushiftRight]
      exact BitVec.getLsbD_of_ge v 8 le_rfl
    exact (BitVec.and_twoPow _ 7).trans (by rw [hbit]; rfl)

theorem shiftLeft_eq_shiftOp : shiftLeft = Mnemonic.asl.shiftOp := by
  funext v c
  exact congrArg₂ Shifted.mk (shiftLeft_one_eq_ofNat v) (getLsbD_seven v)

theorem shiftRight_eq_shiftOp : shiftRight = Mnemonic.lsr.shiftOp := by
  funext v c
  exact congrArg₂ Shifted.mk (shiftRight_one_eq_ofNat v) (getLsbD_zero_eq_odd v)

theorem rotateLeft_eq_shiftOp : rotateLeft = Mnemonic.rol.shiftOp := by
  funext v c
  refine congrArg₂ Shifted.mk ?_ (getLsbD_seven v)
  rw [← BitVec.add_eq_or_of_and_eq_zero _ _ (shiftLeft_one_and_carry v c), shiftLeft_one_eq_ofNat,
    ← BitVec.ofNat_add, Mnemonic.shifted]

theorem rotateRight_eq_shiftOp : rotateRight = Mnemonic.ror.shiftOp := by
  funext v c
  refine congrArg₂ Shifted.mk ?_ (getLsbD_zero_eq_odd v)
  rw [← BitVec.add_eq_or_of_and_eq_zero _ _ (shiftRight_one_and_carry v c), shiftRight_one_eq_ofNat,
    carry_shiftLeft_seven, ← BitVec.ofNat_add, Mnemonic.shifted]

end Sys2Proof
end

/-! PROOF. A shift or rotate is its integer operation on A or on memory, as its operand says (R260). -/
section

namespace Sys2Proof

/-- The mnemonics with an accumulator form (R260). -/
def Mnemonic.isShift (m : Mnemonic) : Bool := [Mnemonic.asl, .lsr, .rol, .ror].contains m

/-- A shift or rotate has A or a memory form as its operand. -/
theorem Instr.acc_or_addrForm_of_isShift {i : Instr} (hi : i.mnemonic.isShift = true) :
    i.arg = .acc ∨ ∃ f, i.arg.addrForm = some f := by
  cases i with
  | aslAcc | lsrAcc | rolAcc | rorAcc => exact .inl rfl
  | aslZp | aslAbs | aslZpX | aslAbsX | lsrZp | lsrAbs | lsrZpX | lsrAbsX
  | rolZp | rolAbs | rolZpX | rolAbsX | rorZp | rorAbs | rorZpX | rorAbsX => exact .inr ⟨_, rfl⟩
  | _ => exact absurd hi Bool.false_ne_true

end Sys2Proof

namespace Sys2Proof.Machine

theorem shiftArg_of_addrForm {arg : Arg} {f : AddrForm} (hf : arg.addrForm = some f) (sh : Byte → Bool → Shifted)
    (n : Nat) (s : State) : shiftArg sh n s arg = shiftMem sh f n s := by
  cases arg with
  | acc => cases hf
  | _ => rw [shiftArg, hf, withOperand]; nofun

theorem runMnemonic_of_isShift {m : Mnemonic} (hm : m.isShift = true) (arg : Arg) (n : Nat) (s : State) :
    runMnemonic m arg n s = shiftArg m.shiftOp n s arg := by
  cases m with
  | asl => rw [← shiftLeft_eq_shiftOp]; rfl
  | lsr => rw [← shiftRight_eq_shiftOp]; rfl
  | rol => rw [← rotateLeft_eq_shiftOp]; rfl
  | ror => rw [← rotateRight_eq_shiftOp]; rfl
  | _ => exact absurd hm Bool.false_ne_true

/-- A shift or rotate is its integer operation on its operand, in every form. -/
theorem exec_of_isShift {i : Instr} (hi : i.mnemonic.isShift = true) (s : State) :
    exec i s = shiftArg i.mnemonic.shiftOp i.baseCost s i.arg := by
  rw [exec_eq_runMnemonic, runMnemonic_of_isShift hi]

end Sys2Proof.Machine
end

/-! PROOF. The obligation of 43_shift_rotate.md. -/
section

open Sys2Proof Sys2Proof.Machine

/-- Settles O37: the encodings are the lines of the opcode map, and each instruction is its shift in integers, of A or
at the resolved address. -/
theorem shiftInstructions : Obligations.ShiftInstructions := by
  refine ⟨hasRows_encodings .asl, hasRows_encodings .lsr, hasRows_encodings .rol, hasRows_encodings .ror,
    fun i s hi => ?_⟩
  have hexec := exec_of_isShift hi s
  obtain ha | ⟨f, hf⟩ := Instr.acc_or_addrForm_of_isShift hi
  · rw [ha] at hexec
    exact .inl ⟨ha, hexec.trans (shiftA_eq ..)⟩
  · rw [shiftArg_of_addrForm hf] at hexec
    exact .inr ⟨f, hf, hexec.trans (shiftMem_eq ..)⟩

end

/-! PROOF. One up and one down in integers: subtracting 1 is adding 255 modulo 256 (R280 to R285). -/
section

namespace Sys2Proof

theorem add_one_eq_ofNat (v : Byte) : v + 1 = BitVec.ofNat 8 (v.toNat + 1) := BitVec.add_def v 1

theorem add_neg_one_eq_ofNat (v : Byte) : v + -1 = BitVec.ofNat 8 (v.toNat + 255) := BitVec.add_def v (-1)

theorem sub_one_eq_ofNat (v : Byte) : v - 1 = BitVec.ofNat 8 (v.toNat + 255) :=
  (sub_eq_add_neg v 1).trans (add_neg_one_eq_ofNat v)

end Sys2Proof
end

/-! PROOF. The obligations of 44_inc_dec.md. -/
section

open Sys2Proof Sys2Proof.Machine

/-- Settles O38: the encodings are the lines of the opcode map, and each instruction steps the byte at the resolved
address. -/
theorem incrementDecrementMemory : Obligations.IncrementDecrementMemory := by
  refine ⟨hasRows_encodings .inc, hasRows_encodings .dec, fun i s hm => ?_, fun i s hm => ?_⟩
  · obtain ⟨f, hf, hexec⟩ := exec_storing (op := stepMem 1) rfl (fun _ _ _ => rfl) hm s
    exact ⟨f, hf, by rw [hexec, stepMem_eq, add_one_eq_ofNat]⟩
  · obtain ⟨f, hf, hexec⟩ := exec_storing (op := stepMem (-1)) rfl (fun _ _ _ => rfl) hm s
    exact ⟨f, hf, by rw [hexec, stepMem_eq, add_neg_one_eq_ofNat]⟩

/-- Settles O39: the encodings are the lines of the opcode map, and each instruction steps its register. -/
theorem incrementDecrementRegisters : Obligations.IncrementDecrementRegisters := by
  refine ⟨hasRows_encodings .inx, hasRows_encodings .iny, hasRows_encodings .dex, hasRows_encodings .dey,
    fun s => ?_, fun s => ?_, fun s => ?_, fun s => ?_⟩
  · rw [exec_inx, add_one_eq_ofNat]; rfl
  · rw [exec_iny, add_one_eq_ofNat]; rfl
  · rw [exec_dex, sub_one_eq_ofNat]; rfl
  · rw [exec_dey, sub_one_eq_ofNat]; rfl

end

/-! PROOF. The comparison and the bit test in integers (R300, R304): N of a comparison is bit 7 of the difference modulo
256. -/
section

namespace Sys2Proof

/-- A difference of bytes, with 256 added so that it does not go below 0. -/
theorem byte_sub_toNat (r m : Byte) : (r - m).toNat = (r.toNat + 256 - m.toNat) % 256 := by
  have hm := m.isLt
  rw [BitVec.toNat_sub]
  omega

theorem compare_eq_inIntegers (f : Flags) (r m : Byte) :
    f.compare r m =
      { f with
        c := decide (m.toNat ≤ r.toNat)
        z := decide (r = m)
        n := decide (128 ≤ (r.toNat + 256 - m.toNat) % 256) } := by
  rw [Flags.compare, getLsbD_seven, byte_sub_toNat]
  rfl

theorem bitTest_eq (f : Flags) (a m : Byte) :
    f.bitTest a m = { f with z := decide (a &&& m = 0x00), n := m.getLsbD 7, v := m.getLsbD 6 } := rfl

end Sys2Proof
end

/-! PROOF. The obligations of 45_compare_bit.md. -/
section

open Sys2Proof Sys2Proof.Machine

/-- Settles O40: the encodings are the lines of the opcode map, and each instruction is its register's comparison with
the operand read, in integers. -/
theorem compareInstructions : Obligations.CompareInstructions := by
  refine ⟨hasRows_encodings .cmp, hasRows_encodings .cpx, hasRows_encodings .cpy, fun i s hm => ?_, fun i s hm => ?_,
    fun i s hm => ?_⟩
  · obtain ⟨src, hs, hexec, hdone⟩ := exec_reading (op := compareA) rfl (fun _ _ _ => rfl) hm s
    exact ⟨src, hs, by rw [hexec, compareA_eq, hdone, compare_eq_inIntegers]⟩
  · obtain ⟨src, hs, hexec, hdone⟩ := exec_reading (op := compareX) rfl (fun _ _ _ => rfl) hm s
    exact ⟨src, hs, by rw [hexec, compareX_eq, hdone, compare_eq_inIntegers]⟩
  · obtain ⟨src, hs, hexec, hdone⟩ := exec_reading (op := compareY) rfl (fun _ _ _ => rfl) hm s
    exact ⟨src, hs, by rw [hexec, compareY_eq, hdone, compare_eq_inIntegers]⟩

/-- Settles O41: the encodings are the lines of the opcode map, and both forms test A against the operand read. -/
theorem bitInstruction : Obligations.BitInstruction := by
  refine ⟨hasRows_encodings .bit, fun i s hm => ?_⟩
  obtain ⟨src, hs, hexec, hdone⟩ := exec_reading (op := bitTestA) rfl (fun _ _ _ => rfl) hm s
  exact ⟨src, hs, by rw [hexec, bitTestA_eq, hdone, bitTest_eq]⟩

end

/-! PROOF. A branch in integers (R320): both penalties stand in one cost, and the page is compared with that of the next
instruction. -/
section

namespace Sys2Proof.Machine

theorem pageDiffers_toNat (p q : Word) :
    (pageDiffers p q).toNat = if p.toNat / 256 = q.toNat / 256 then 0 else 1 := by
  split
  · next h => rw [Bool.eq_false_iff.2 fun hd => (pageDiffers_iff p q).1 hd h, Bool.toNat_false]
  · next h => rw [(pageDiffers_iff p q).2 h, Bool.toNat_true]

theorem branchIf_eq_inIntegers (cond : Bool) (off : Byte) (s : State) :
    branchIf cond off s = .next
      (if cond then
        { s with
          pc := BitVec.ofInt 16 (s.pc.toNat + off.toInt)
          cycles := s.cycles + 3 +
            (if s.pc.toNat / 256 = (BitVec.ofInt 16 (s.pc.toNat + off.toInt)).toNat / 256 then 0 else 1) }
      else { s with cycles := s.cycles + 2 }) := by
  rw [branchIf_eq, pageDiffers_toNat, branchTarget_eq_ofInt]
  simp only [State.addCycles, State.setPc, Nat.add_assoc]

end Sys2Proof.Machine
end

/-! PROOF. The obligation of 46_branch.md. -/
section

open Sys2Proof Sys2Proof.Machine

/-- Settles O42: the encodings are the lines of the opcode map, and each instruction is the one branch operation at its
own condition. -/
theorem branchInstructions : Obligations.BranchInstructions := by
  refine ⟨hasRows_encodings .bpl, hasRows_encodings .bmi, hasRows_encodings .bvc, hasRows_encodings .bvs,
    hasRows_encodings .bcc, hasRows_encodings .bcs, hasRows_encodings .bne, hasRows_encodings .beq,
    fun s off p hp => ?_⟩
  rw [← branchIf_eq_inIntegers]
  simp only [List.mem_cons, List.not_mem_nil, or_false] at hp
  obtain rfl | rfl | rfl | rfl | rfl | rfl | rfl | rfl := hp
  · exact exec_bpl off s
  · exact exec_bmi off s
  · exact exec_bvc off s
  · exact exec_bvs off s
  · exact exec_bcc off s
  · exact exec_bcs off s
  · exact exec_bne off s
  · exact exec_beq off s

end

/-! PROOF. The stack laws (R346): a pull undoes a push, and pulls that do not come as far as a written stack cell do not
see the write. -/
section

namespace Sys2Proof.Machine

theorem sharesCell_stackAddr {p q : Byte} (h : sharesCell (stackAddr p) (stackAddr q)) : p = q := by
  obtain ⟨-, hcell⟩ := h
  rw [ramIndex_stackAddr, ramIndex_stackAddr] at hcell
  exact BitVec.eq_of_toNat_eq (Nat.add_left_cancel hcell)

theorem State.peek_stackAddr_memWrite {s : State} (h : s.wf = true) (p v : Byte) :
    (s.memWrite (stackAddr p) v).peek (stackAddr p) = v := by
  have hlow : (stackAddr p).toNat < ramMirrorEnd := by
    rw [toNat_stackAddr]
    exact Nat.lt_of_lt_of_le (Nat.add_lt_add_left p.isLt 256) (by decide)
  rw [State.peek_memWrite ((State.wf_iff s).1 h).1, if_pos ⟨hlow, rfl⟩]

theorem State.pull_push {s : State} (h : s.wf = true) (v : Byte) :
    (s.push v).pull = { value := v, state := s.memWrite (stackAddr s.sp) v } := by
  have hsp : s.sp - 1 + 1 = s.sp := sub_add_cancel s.sp 1
  rw [State.pull_eq, State.push_sp, hsp, State.push, State.setSp_peek, State.peek_stackAddr_memWrite h]
  rfl

theorem State.pull_memWrite_other {s : State} {p : Byte} (v : Byte) (h : s.sp + 1 ≠ p) :
    (s.memWrite (stackAddr p) v).pull =
      { value := s.pull.value, state := s.pull.state.memWrite (stackAddr p) v } := by
  rw [State.pull_eq, State.pull_eq, State.memWrite_sp, State.peek_memWrite_other s v (h ∘ sharesCell_stackAddr)]
  rfl

/-- The first cell pulled is the one above the pointer, so the cell at `p` is pulled after `p - (SP + 1)` others. -/
theorem State.pullMany_memWrite {n : Nat} {s : State} {p : Byte} (v : Byte) (h : n ≤ (p - (s.sp + 1)).toNat) :
    State.pullMany n (s.memWrite (stackAddr p) v) =
      ((State.pullMany n s).1, (State.pullMany n s).2.memWrite (stackAddr p) v) := by
  induction n generalizing s with
  | zero => rfl
  | succ n ih =>
    have hne : s.sp + 1 ≠ p := by bv_omega
    have hrest : n ≤ (p - (s.pull.state.sp + 1)).toNat := by
      rw [State.pull_eq, State.setSp_sp]
      bv_omega
    rw [State.pullMany, State.pull_memWrite_other v hne, ih hrest, State.pullMany]

@[simp] theorem State.pushAll_append_singleton (s : State) (vs : List Byte) (v : Byte) :
    s.pushAll (vs ++ [v]) = (s.pushAll vs).push v :=
  List.foldl_concat ..

theorem State.wf_pushAll {s : State} (h : s.wf = true) (vs : List Byte) : (s.pushAll vs).wf = true := by
  induction vs generalizing s with
  | nil => exact h
  | cons v vs ih => exact ih (State.wf_push h v)

theorem State.pushAll_sp (s : State) (vs : List Byte) :
    (s.pushAll vs).sp = s.sp - BitVec.ofNat 8 vs.length := by
  induction vs generalizing s with
  | nil => exact (BitVec.sub_zero s.sp).symm
  | cons v vs ih =>
    have hrest : (s.pushAll (v :: vs)).sp = s.sp - 1 - BitVec.ofNat 8 vs.length := ih (s.push v)
    rw [hrest, List.length_cons]
    bv_omega

/-- The last byte pushed is the first one pulled, and the pulls after it do not come as far as its cell: it is the 256th
above the pointer. -/
theorem State.pullMany_pushAll {s : State} (hwf : s.wf = true) (vs : List Byte) (hlen : vs.length ≤ 256) :
    (State.pullMany vs.length (s.pushAll vs)).1 = vs.reverse ∧
      (State.pullMany vs.length (s.pushAll vs)).2.sp = s.sp := by
  induction vs using List.reverseRecOn with
  | nil => exact ⟨rfl, rfl⟩
  | append_singleton vs v ih =>
    rw [List.length_append, List.length_singleton] at hlen ⊢
    obtain ⟨hvalues, hsp⟩ := ih (by omega)
    have hfar : vs.length ≤ ((s.pushAll vs).sp - ((s.pushAll vs).sp + 1)).toNat := by bv_omega
    rw [State.pushAll_append_singleton, State.pullMany, State.pull_push (State.wf_pushAll hwf vs) v,
      State.pullMany_memWrite v hfar, hvalues, List.reverse_concat]
    exact ⟨rfl, hsp⟩

theorem State.peek_push_pushAll_256 {s : State} (hwf : s.wf = true) {vs : List Byte} (hlen : vs.length = 256)
    (v : Byte) : ((s.pushAll vs).push v).peek (stackAddr s.sp) = v := by
  have hsp : (s.pushAll vs).sp = s.sp := by
    rw [State.pushAll_sp, hlen]
    exact BitVec.sub_zero s.sp
  rw [State.push, State.setSp_peek, hsp]
  exact State.peek_stackAddr_memWrite (State.wf_pushAll hwf vs) s.sp v

end Sys2Proof.Machine
end

/-! PROOF. The obligations of 47_stack.md. -/
section

open Sys2Proof Sys2Proof.Machine

/-- Settles O43: the address in integers, the definition of a push, and the law of a pull, which never reports. -/
theorem stackPrimitives : Obligations.StackPrimitives := by
  refine ⟨toNat_stackAddr, fun s v => rfl, fun s => ?_⟩
  rw [State.pull_eq]
  exact ⟨rfl, rfl⟩

/-- Settles O44: the encodings are the lines of the opcode map, the two pushes are the push of a byte, and the two pulls
take the byte above the pointer. -/
theorem stackInstructions : Obligations.StackInstructions :=
  ⟨hasRows_encodings .pha, hasRows_encodings .pla, hasRows_encodings .php, hasRows_encodings .plp,
    fun s => ⟨exec_pha s, exec_php s, (exec_pla s).trans (execPla_eq s), (exec_plp s).trans (execPlp_eq s)⟩⟩

/-- Settles O45, by induction on the bytes pushed, from the last one. -/
theorem stackRoundTrip : Obligations.StackRoundTrip :=
  fun _ vs hwf => ⟨State.pullMany_pushAll hwf vs, fun hlen => State.peek_push_pushAll_256 hwf hlen⟩

end

/-! PROOF. The call and trap frames on the stack (R340, R360 to R365): what the stack cells read as after the pushes, and
the two halves of an address. -/
section

namespace Sys2Proof.Machine

theorem State.peek_push_same {s : State} (h : s.wf = true) (v : Byte) : (s.push v).peek (stackAddr s.sp) = v := by
  rw [State.push, State.setSp_peek, State.peek_stackAddr_memWrite h]

theorem State.peek_push_other (s : State) (v : Byte) {p : Byte} (hp : p ≠ s.sp) :
    (s.push v).peek (stackAddr p) = s.peek (stackAddr p) := by
  rw [State.push, State.setSp_peek, State.peek_memWrite_other s v (hp ∘ sharesCell_stackAddr)]

/-- The high byte of a pushed word is at the old pointer (R91). -/
theorem State.peek_pushWord_hi {s : State} (h : s.wf = true) (w : Word) :
    (s.pushWord w).peek (stackAddr s.sp) = hi w := by
  have hne : s.sp ≠ (s.push (hi w)).sp := by rw [State.push_sp]; bv_omega
  rw [State.pushWord, State.peek_push_other _ _ hne, State.peek_push_same h]

/-- The low byte of a pushed word is one below the old pointer (R91). -/
theorem State.peek_pushWord_lo {s : State} (h : s.wf = true) (w : Word) :
    (s.pushWord w).peek (stackAddr (s.sp - 1)) = lo w :=
  State.peek_push_same (State.wf_push h (hi w)) (lo w)

theorem State.wf_pushWord {s : State} (h : s.wf = true) (w : Word) : (s.pushWord w).wf = true :=
  State.wf_push (State.wf_push h (hi w)) (lo w)

theorem State.pushWord_sp_eq_sub_two (s : State) (w : Word) : (s.pushWord w).sp = s.sp - 2 := by
  rw [State.pushWord_sp]
  bv_omega

/-- The frame of a trap, downwards from the old pointer: the pushed word, high byte first, and the status (R364). -/
theorem State.peek_pushFrame {s : State} (h : s.wf = true) (w : Word) (v : Byte) :
    ((s.pushWord w).push v).peek (stackAddr s.sp) = hi w ∧
      ((s.pushWord w).push v).peek (stackAddr (s.sp - 1)) = lo w ∧
      ((s.pushWord w).push v).peek (stackAddr (s.sp - 2)) = v := by
  have hsp := State.pushWord_sp_eq_sub_two s w
  have hne : s.sp ≠ (s.pushWord w).sp := by rw [hsp]; bv_omega
  have hne' : s.sp - 1 ≠ (s.pushWord w).sp := by rw [hsp]; bv_omega
  refine ⟨?_, ?_, ?_⟩
  · rw [State.peek_push_other _ _ hne, State.peek_pushWord_hi h]
  · rw [State.peek_push_other _ _ hne', State.peek_pushWord_lo h]
  · rw [← hsp]
    exact State.peek_push_same (State.wf_pushWord h w) v

theorem toNat_hi (w : Word) : (hi w).toNat = w.toNat / 256 := by
  have h := toNat_word (hi w) (lo w)
  have hlo := (lo w).isLt
  rw [word_hi_lo] at h
  omega

theorem toNat_lo (w : Word) : (lo w).toNat = w.toNat % 256 := by
  have h := toNat_word (hi w) (lo w)
  have hlo := (lo w).isLt
  rw [word_hi_lo] at h
  omega

/-- The second byte of a jump pointer, in integers: one further in the same page (R367). -/
theorem eq_samePageSuccessor {ptr second : Word}
    (h : second.toNat = ptr.toNat / 256 * 256 + (ptr.toNat % 256 + 1) % 256) :
    second = word (hi ptr) (lo ptr + 1) := by
  apply BitVec.eq_of_toNat_eq
  rw [h, toNat_word, toNat_hi, BitVec.toNat_add, toNat_lo]
  rfl

/-- The three pushes of a trap as stores (R364). -/
theorem exec_brk_eq (s : State) :
    exec .brk s = .next
      { ((s.memWrite (stackAddr s.sp) (hi (s.pc + 1))).memWrite (stackAddr (s.sp - 1)) (lo (s.pc + 1))).memWrite
          (stackAddr (s.sp - 2)) s.flags.pack with
        sp := s.sp - 3
        flags := { s.flags with i := true }
        pc := word (s.peek 0xFFFF) (s.peek 0xFFFE)
        cycles := s.cycles + 7 } := by
  have h2 : s.sp - 2 = s.sp - 1 - 1 := by bv_omega
  have h3 : s.sp - 3 = s.sp - 1 - 1 - 1 := by bv_omega
  rw [exec_brk, execBrk_eq, h2, h3]
  rfl

theorem exec_rts_eq (s : State) :
    exec .rts s = .next
      { s with
        sp := s.sp + 2
        pc := word (s.peek (stackAddr (s.sp + 2))) (s.peek (stackAddr (s.sp + 1))) + 1
        cycles := s.cycles + 6 } := by
  have h2 : s.sp + 1 + 1 = s.sp + 2 := BitVec.add_assoc s.sp 1 1
  rw [exec_rts, execRts_eq, h2]

theorem exec_rti_eq (s : State) :
    exec .rti s = .next
      { s with
        flags := Flags.unpack (s.peek (stackAddr (s.sp + 1)))
        sp := s.sp + 3
        pc := word (s.peek (stackAddr (s.sp + 3))) (s.peek (stackAddr (s.sp + 2)))
        cycles := s.cycles + 6 } := by
  have h2 : s.sp + 1 + 1 = s.sp + 2 := BitVec.add_assoc s.sp 1 1
  have h3 : s.sp + 2 + 1 = s.sp + 3 := BitVec.add_assoc s.sp 2 1
  rw [exec_rti, execRti_eq, h2, h3]

end Sys2Proof.Machine
end

/-! PROOF. The obligations of 48_control.md. -/
section

open Sys2Proof Sys2Proof.Machine

/-- Settles O46: the encodings are the lines of the opcode map, JSR pushes the word before the next instruction, and RTS
pulls a word. -/
theorem callAndReturn : Obligations.CallAndReturn := by
  refine ⟨hasRows_encodings .jsr, hasRows_encodings .rts, fun s p target hpc => ?_, exec_rts_eq⟩
  have hret : s.pc - 1 = p + 2 := by bv_omega
  have hsp : s.sp - 2 = s.sp - 1 - 1 := by bv_omega
  rw [exec_jsrAbs, hret, hsp]
  rfl

/-- Settles O47: RTS pulls the word that JSR pushed, which is one less than the next instruction's address. -/
theorem returnComesBackAfterCall : Obligations.ReturnComesBackAfterCall := by
  intro s t u p target hw hpc h hsp hhi hlo
  have hret : s.pc - 1 = p + 2 := by bv_omega
  rw [exec_jsrAbs, hret] at h
  cases h
  have husp : u.sp = s.sp - 2 := hsp.trans (State.pushWord_sp_eq_sub_two s (p + 2))
  have h1 : u.sp + 1 = s.sp - 1 := by rw [husp]; bv_omega
  have h2 : u.sp + 2 = s.sp := by rw [husp]; bv_omega
  refine ⟨rfl, _, exec_rts_eq u, ?_, h2⟩
  rw [h1, h2, hhi, hlo, State.addCycles_peek, State.setPc_peek, State.addCycles_peek, State.setPc_peek,
    State.peek_pushWord_hi hw, State.peek_pushWord_lo hw, word_hi_lo]
  exact BitVec.add_assoc p 2 1

/-- Settles O48: the encoding is the line of the opcode map, and the trap is three stores. -/
theorem breakTrap : Obligations.BreakTrap := by
  refine ⟨hasRows_encodings .brk, fun s p hpc => ?_⟩
  have hret : s.pc + 1 = p + 2 := by rw [hpc]; exact BitVec.add_assoc p 1 1
  rw [exec_brk_eq, hret]

/-- Settles O49: RTI takes the frame above the pointer, and the frame that BRK leaves holds p + 2 and the packed flags,
which unpack to the flags. -/
theorem returnFromInterrupt : Obligations.ReturnFromInterrupt := by
  refine ⟨hasRows_encodings .rti, exec_rti_eq, fun s t p hw hpc h => ?_⟩
  have hret : s.pc + 1 = p + 2 := by rw [hpc]; exact BitVec.add_assoc p 1 1
  rw [exec_brk, execBrk_eq, hret] at h
  cases h
  obtain ⟨hhi, hlo, hflags⟩ := State.peek_pushFrame hw (p + 2) s.flags.pack
  have hsp : s.sp - 1 - 1 - 1 = s.sp - 3 := by bv_omega
  refine ⟨hsp, hhi, hlo, hflags, fun u husp hframe => ⟨_, exec_rti_eq u, ?_⟩⟩
  simp only [List.forall_mem_cons] at hframe
  obtain ⟨hhi', hlo', hflags', -⟩ := hframe
  have husp' : u.sp = s.sp - 3 := husp.trans hsp
  have h1 : u.sp + 1 = s.sp - 2 := by rw [husp']; bv_omega
  have h2 : u.sp + 2 = s.sp - 1 := by rw [husp']; bv_omega
  have h3 : u.sp + 3 = s.sp := by rw [husp']; bv_omega
  refine ⟨?_, ?_, h3⟩
  · rw [h2, h3, hhi', hlo']
    exact (congrArg₂ word hhi hlo).trans (word_hi_lo (p + 2))
  · rw [h1, hflags']
    exact (congrArg Flags.unpack hflags).trans (unpack_pack s.flags)

/-- Settles O50: the encodings are the lines of the opcode map, and the second byte of the pointer is the next one of
its page. -/
theorem jumpInstructions : Obligations.JumpInstructions := by
  refine ⟨hasRows_encodings .jmp, fun s w => exec_jmpAbs w s, fun s ptr second hsecond => ?_⟩
  rw [eq_samePageSuccessor hsecond, exec_jmpInd, execJmpInd_eq]

end

/-! PROOF. The step that fetches STOP (R394). -/
section

namespace Sys2Proof.Machine

/-- STOP has no operand to read, so its step is the opcode fetch and the halt. -/
theorem stepWith_stop {cfg : Config} (hv : cfg.valid = true) {s : State} (hh : s.halted = false)
    (hop : s.peek s.pc = cfg.stopOpcode) (hs : cfg.supports (s.peek s.pc) = true) :
    stepWith cfg s = .next { s with halted := true, pc := s.pc + 1, events := s.events ++ s.opcodeEvents } := by
  have hd : cfg.decodeOpcode (s.peek s.pc) = some (.bare .stop) := by
    rw [hop] at hs ⊢
    exact decodeOpcode_stop hs
  rw [stepWith_run hv hh hd, State.fetchOpcode_eq]
  rfl

end Sys2Proof.Machine
end

/-! PROOF. The obligations of 49_transfer_flag_misc.md. -/
section

open Sys2Proof Sys2Proof.Machine

/-- Settles O51: the encodings are the lines of the opcode map, and each instruction is its copy of a register. -/
theorem transferInstructions : Obligations.TransferInstructions :=
  ⟨hasRows_encodings .tax, hasRows_encodings .txa, hasRows_encodings .tay, hasRows_encodings .tya,
    hasRows_encodings .txs, hasRows_encodings .tsx,
    fun s => ⟨exec_tax s, exec_txa s, exec_tay s, exec_tya s, exec_tsx s, exec_txs s⟩⟩

/-- Settles O52: the encodings are the lines of the opcode map, and each instruction writes its one flag. -/
theorem flagInstructions : Obligations.FlagInstructions :=
  ⟨hasRows_encodings .sec, hasRows_encodings .clc, hasRows_encodings .sei, hasRows_encodings .cli,
    hasRows_encodings .sed, hasRows_encodings .cld, hasRows_encodings .clv,
    fun s => ⟨exec_sec s, exec_clc s, exec_sei s, exec_cli s, exec_sed s, exec_cld s, exec_clv s⟩⟩

/-- Settles O53: the encodings are the lines of the opcode map and STOP, and the step that fetches STOP halts the core. -/
theorem nopAndStop : Obligations.NopAndStop :=
  ⟨hasRows_encodings .nop, hasRows_encodings .stop, exec_nop, exec_stop, fun _ _ hv hh hop hs =>
    ⟨_, stepWith_stop hv hh hop hs, rfl, stepWith_halted hv rfl⟩⟩

end

/-! PROOF. The visible part of the state (R83, R431, R474): every operation computes it from the visible part alone, so a
step does too. -/
section

namespace Sys2Proof.Machine

/-- An answer less what no instruction depends on. -/
def visibleResult : Result → Result
  | .next t => .next t.visible
  | .fault r => .fault r
  | .refused r => .refused r

theorem AddrForm.resolve_visible_ea (f : AddrForm) (s : State) : (f.resolve s.visible).ea = (f.resolve s).ea := by
  cases f <;> simp only [AddrForm.resolve, State.readPointer_eq] <;> rfl

theorem Source.byteAt_visible (src : Source) (s : State) : src.byteAt s.visible = src.byteAt s := by
  cases src with
  | imm b => rfl
  | mem f => exact congrArg s.peek (f.resolve_visible_ea s)

theorem visibleResult_withOperand_congr {α : Type} {operand : Option α} {op op' : α → Result}
    (hop : ∀ x, visibleResult (op x) = visibleResult (op' x)) :
    visibleResult (withOperand operand op) = visibleResult (withOperand operand op') := by
  cases operand with
  | none => rfl
  | some x => exact hop x

/-- A reading instruction looks at the visible part alone when its effect does. -/
theorem readThen_visible {effect : State → Byte → State}
    (heffect : ∀ u b, (effect u.visible b).visible = (effect u b).visible) (src : Source) (n : Nat) (s : State) :
    visibleResult (readThen src n effect s.visible) = visibleResult (readThen src n effect s) := by
  have hnext : (effect (s.visible.afterReads (src.addrs s.visible)) (src.byteAt s)).visible =
      (effect (s.afterReads (src.addrs s)) (src.byteAt s)).visible := by
    rw [← heffect, ← heffect (s.afterReads _)]
    rfl
  rw [readThen_eq, readThen_eq, Source.byteAt_visible]
  exact congrArg Host.Outcome.next hnext

theorem storeTo_visible (f : AddrForm) (n : Nat) (v : Byte) (s : State) :
    visibleResult (storeTo f n v s.visible) = visibleResult (storeTo f n v s) := by
  rw [storeTo_eq, storeTo_eq, AddrForm.resolve_visible_ea]
  rfl

theorem modifyAt_visible (f : AddrForm) (n : Nat) (effect : Byte → Flags → Byte × Flags) (s : State) :
    visibleResult (modifyAt f n effect s.visible) = visibleResult (modifyAt f n effect s) := by
  rw [modifyAt_eq, modifyAt_eq, AddrForm.resolve_visible_ea]
  rfl

theorem shiftArg_of_ne_acc {arg : Arg} (ha : arg ≠ .acc) (sh : Byte → Bool → Shifted) (n : Nat) (s : State) :
    shiftArg sh n s arg = withOperand arg.addrForm fun f => shiftMem sh f n s := by
  rw [shiftArg]
  exact ha

theorem shiftArg_visible (sh : Byte → Bool → Shifted) (n : Nat) (s : State) (arg : Arg) :
    visibleResult (shiftArg sh n s.visible arg) = visibleResult (shiftArg sh n s arg) := by
  by_cases ha : arg = .acc
  · subst ha
    rfl
  · rw [shiftArg_of_ne_acc ha, shiftArg_of_ne_acc ha]
    exact visibleResult_withOperand_congr fun f => modifyAt_visible f n _ s

theorem jumpArg_visible (s : State) (arg : Arg) :
    visibleResult (jumpArg s.visible arg) = visibleResult (jumpArg s arg) := by
  cases arg with
  | ind ptr => rw [jumpArg, jumpArg, exec_jmpInd, exec_jmpInd, execJmpInd_eq, execJmpInd_eq]; rfl
  | _ => rfl

theorem branchIf_visible (cond : Bool) (off : Byte) (s : State) :
    visibleResult (branchIf cond off s.visible) = visibleResult (branchIf cond off s) := by
  rw [branchIf_eq, branchIf_eq]
  cases cond <;> rfl

/-- The visible part of an instruction's answer depends on the visible part of the state alone. -/
theorem exec_visible (i : Instr) (s : State) : visibleResult (exec i s.visible) = visibleResult (exec i s) := by
  rw [exec_eq_runMnemonic, exec_eq_runMnemonic]
  cases i.mnemonic
  case lda | ldx | ldy | adc | sbc | and | ora | eor | cmp | cpx | cpy | bit =>
    exact visibleResult_withOperand_congr fun src => readThen_visible (fun _ _ => rfl) src _ s
  case sta | stx | sty => exact visibleResult_withOperand_congr fun f => storeTo_visible f _ _ s
  case inc | dec => exact visibleResult_withOperand_congr fun f => modifyAt_visible f _ _ s
  case asl | lsr | rol | ror => exact shiftArg_visible _ _ s _
  case bpl | bmi | bvc | bvs | bcc | bcs | bne | beq =>
    exact visibleResult_withOperand_congr fun off => branchIf_visible _ off s
  case jsr => exact visibleResult_withOperand_congr fun _ => rfl
  case jmp => exact jumpArg_visible s _
  case pla | plp | rts | rti | brk =>
    simp only [runMnemonic, exec_pla, execPla_eq, exec_plp, execPlp_eq, exec_rts, execRts_eq, exec_rti, execRti_eq,
      exec_brk, execBrk_eq]
    rfl
  case inx | iny | dex | dey | tax | txa | tay | tya | tsx | txs | sec | clc | sei | cli | sed | cld | clv | nop | pha
  | php | stop => rfl

theorem exec_visible_congr {i : Instr} {s s' : State} (h : s.visible = s'.visible) :
    visibleResult (exec i s) = visibleResult (exec i s') := by
  rw [← exec_visible, h, exec_visible]

theorem fetchOperands_visible (form : Form) (s : State) :
    (fetchOperands form s.visible).instr = (fetchOperands form s).instr ∧
      (fetchOperands form s.visible).state.visible = (fetchOperands form s).state.visible := by
  cases form with
  | bare i => exact ⟨rfl, rfl⟩
  | padded i => exact ⟨rfl, rfl⟩
  | byte f => rw [fetchOperands, fetchOperands, State.fetch8_eq, State.fetch8_eq]; exact ⟨rfl, rfl⟩
  | word f =>
    simp only [fetchOperands, State.fetch8_eq]
    exact ⟨rfl, rfl⟩

theorem fetchOperands_visible_congr {form : Form} {s s' : State} (h : s.visible = s'.visible) :
    (fetchOperands form s).instr = (fetchOperands form s').instr ∧
      (fetchOperands form s).state.visible = (fetchOperands form s').state.visible := by
  obtain ⟨hi, hs⟩ := fetchOperands_visible form s
  obtain ⟨hi', hs'⟩ := fetchOperands_visible form s'
  rw [← hi, ← hi', ← hs, ← hs', h]
  exact ⟨rfl, rfl⟩

theorem fetchOpcode_visible (s : State) : s.visible.fetchOpcode.state.visible = s.fetchOpcode.state.visible := by
  rw [State.fetchOpcode_eq, State.fetchOpcode_eq]
  rfl

/-- The visible part of a step depends on the visible part of the state alone. -/
theorem stepWith_visible {cfg : Config} (hv : cfg.valid = true) (s : State) :
    visibleResult (stepWith cfg s.visible) = visibleResult (stepWith cfg s) := by
  obtain ⟨hh, hs⟩ | ⟨hh, hd, hs⟩ | ⟨hh, form, hd, hs⟩ := stepWith_cases hv s <;> rw [hs]
  · rw [stepWith_halted hv (s := s.visible) hh]
    rfl
  · rw [stepWith_unknown hv (s := s.visible) hh hd, State.fetchOpcode_eq, State.fetchOpcode_eq]
    rfl
  · obtain ⟨hi, hstate⟩ := fetchOperands_visible_congr (form := form) (fetchOpcode_visible s)
    rw [stepWith_run hv (s := s.visible) hh hd, hi]
    exact exec_visible_congr hstate

end Sys2Proof.Machine
end

/-! PROOF. Completion and the outputs of a step (R400, R411, R430): every instruction answers, and its outputs come after
those of its fetch. -/
section

namespace Sys2Proof

/-- The bytes after the opcode are enough for every form (R122). -/
theorem Form.exists_complete_pair (form : Form) (b b' : Byte) : ∃ i rest, form.complete [b, b'] = .ok i rest := by
  cases form with
  | bare i => exact ⟨_, _, rfl⟩
  | padded i => exact ⟨_, _, rfl⟩
  | byte f => exact ⟨_, _, rfl⟩
  | word f => exact ⟨_, _, rfl⟩

end Sys2Proof

namespace Sys2Proof.Machine

/-- No arm of `exec` faults or is refused: each meaning is one `.next`, whatever its operand and the state (R400). -/
theorem exec_completes (i : Instr) (s : State) : ∃ t, exec i s = .next t := by
  cases i <;> exact ⟨_, rfl⟩

theorem stepWith_completes {cfg : Config} (hv : cfg.valid = true) (s : State) : ∃ t, stepWith cfg s = .next t := by
  obtain ⟨-, hs⟩ | ⟨-, -, hs⟩ | ⟨-, form, -, hs⟩ := stepWith_cases hv s
  · exact ⟨s, hs⟩
  · exact ⟨_, hs⟩
  · obtain ⟨t, ht⟩ := exec_completes (fetchOperands form s.fetchOpcode.state).instr _
    exact ⟨t, hs.trans ht⟩

/-- The whole state after an unknown opcode (R395, R404). -/
theorem raiseUnknownOpcode_fetchOpcode (s : State) :
    s.fetchOpcode.state.raiseUnknownOpcode (s.peek s.pc) s.pc =
      { s with
        halted := true
        pc := s.pc + 1
        events := s.events ++ accessReport s.pc ++
          [.trace s.traceRecord, .report (.unknownOpcode (s.peek s.pc) s.pc)] } := by
  rw [State.fetchOpcode_eq]
  simp only [State.raiseUnknownOpcode, State.emitReport, State.emit, State.setHalted, State.opcodeEvents,
    List.append_assoc, List.singleton_append]

theorem opcodeEvents_traceRecords (s : State) :
    s.opcodeEvents.filterMap Event.traceRecord? = [s.traceRecord] := by
  have hreports := accessReport_traceRecords [s.pc]
  rw [List.flatMap_singleton] at hreports
  rw [State.opcodeEvents, List.filterMap_append, hreports]
  rfl

/-- The opcode fetch emits one trace record (R430). -/
theorem State.fetchOpcode_trace (s : State) : s.fetchOpcode.state.trace = s.trace ++ [s.traceRecord] := by
  have hevents : s.fetchOpcode.state.events = s.events ++ s.opcodeEvents := by rw [State.fetchOpcode_eq]
  rw [State.trace_of_events hevents, opcodeEvents_traceRecords]

theorem fetchOperands_trace (form : Form) (s : State) : (fetchOperands form s).state.trace = s.trace := by
  obtain ⟨l, w, h⟩ := fetchOperands_state form s
  rw [h, State.setPc_trace, State.afterReads_trace]

theorem exec_trace {i : Instr} {s t : State} (h : exec i s = .next t) : t.trace = s.trace := by
  obtain ⟨-, -, -, -, -, -, -, -, htrace⟩ := registerFrame i s t h
  exact htrace

/-- A running core that supports the opcode at PC runs the instruction decoded from the three bytes there. -/
theorem stepWith_decoded {cfg : Config} (hv : cfg.valid = true) {s : State} (hh : s.halted = false)
    (hs : cfg.supports (s.peek s.pc) = true) :
    ∃ i rest, decode cfg [s.peek s.pc, s.peek (s.pc + 1), s.peek (s.pc + 2)] = .ok i rest ∧
      stepWith cfg s = exec i (s.afterFetch i) := by
  cases hd : cfg.decodeOpcode (s.peek s.pc) with
  | none => rw [(decodeOpcode_eq_none cfg _).1 hd] at hs; cases hs
  | some form =>
    obtain ⟨i, rest, hc⟩ := form.exists_complete_pair (s.peek (s.pc + 1)) (s.peek (s.pc + 2))
    have hdecode := (decode_cons hd _).trans hc
    obtain ⟨-, hruns⟩ := stepRunsDecoded
    exact ⟨i, rest, hdecode, hruns cfg s i rest hv hh hdecode⟩

end Sys2Proof.Machine
end

/-! PROOF. The obligations of 60_exceptions.md. -/
section

open Sys2Proof Sys2Proof.Machine

/-- Settles O17: both steps have the visible part of the step from the common visible part. -/
theorem stepIgnoresOutputs : Obligations.StepIgnoresOutputs := by
  intro cfg s s' t t' hv hvis h h'
  have hsame : visibleResult (stepWith cfg s) = visibleResult (stepWith cfg s') := by
    rw [← stepWith_visible hv s, hvis, stepWith_visible hv s']
  rw [h, h', visibleResult, visibleResult] at hsame
  exact Host.Outcome.next.inj hsame

/-- Settles O9: the halting report comes after the outputs of the fetch. -/
theorem unknownOpcodeHalts : Obligations.UnknownOpcodeHalts := by
  intro cfg s hv hh hs
  rw [stepWith_unknown hv hh ((decodeOpcode_eq_none cfg _).2 hs), raiseUnknownOpcode_fetchOpcode]

/-- Settles O10: every arm of `exec` answers, and so does every case of a step. -/
theorem stepAlwaysAnswers : Obligations.StepAlwaysAnswers :=
  ⟨exec_completes, fun _ s hv => stepWith_completes hv s⟩

/-- Settles O16: the fetch emits the record, and neither the operand reads, the instruction nor a halt emits one. -/
theorem traceRecordPerFetch : Obligations.TraceRecordPerFetch := by
  intro cfg s t hv hh h
  rw [← State.traceRecord, ← State.fetchOpcode_trace]
  obtain ⟨hh', -⟩ | ⟨-, -, hs⟩ | ⟨-, form, -, hs⟩ := stepWith_cases hv s
  · rw [hh] at hh'; cases hh'
  · rw [hs] at h
    cases h
    exact State.emitReport_trace _ _
  · rw [hs] at h
    rw [exec_trace h, fetchOperands_trace]

/-- Settles O59, opcode by opcode: unknown, STOP, or an instruction, whose outputs are the reports of its reads. -/
theorem eventsInStepOrder : Obligations.EventsInStepOrder := by
  intro cfg s t hv hh h
  obtain ⟨-, hhaltedIff, -⟩ := haltedExactlyByStopOrUnknown
  have hhalted := hhaltedIff cfg s t hv hh h
  split
  · next hs =>
    rw [unknownOpcodeHalts cfg s hv hh hs] at h
    cases h
    refine ⟨_, ?_, rfl, rfl⟩
    simp only [List.append_assoc, List.singleton_append]
  · next hs =>
    split
    · next hop =>
      rw [stepWith_stop hv hh hop (eq_true_of_ne_false hs)] at h
      cases h
      refine ⟨_, ?_, rfl, rfl⟩
      rw [State.opcodeEvents, List.append_nil, List.append_assoc]
    · next hop =>
      obtain ⟨i, rest, hdecode, hstep⟩ := stepWith_decoded hv hh (eq_true_of_ne_false hs)
      have hevents := (exec_accesses (hstep.symm.trans h)).events
      refine ⟨_, ?_, eq_false_of_ne_true fun ht => (hhalted.1 ht).elim hop hs, i, rest, hdecode, rfl⟩
      rw [hevents]
      simp only [State.afterFetch, State.opcodeEvents, List.flatMap_append, List.append_assoc]

end

/-! PROOF. The cost of an instruction (R470 to R472), shape by shape: a reading instruction pays for a crossed page, a
branch when it is taken, and every other instruction its base cost alone. -/
section

namespace Sys2Proof.Machine

theorem readThen_cycles {src : Source} {n : Nat} {effect : State → Byte → State} {s t : State}
    (h : readThen src n effect s = .next t) (heffect : ∀ u b, (effect u b).cycles = u.cycles) :
    t.cycles = s.cycles + (n + (src.read s).crossed.toNat) := by
  rw [readThen_eq] at h
  cases h
  rw [State.addCycles_cycles, heffect, State.afterReads_cycles]

theorem storeTo_cycles {f : AddrForm} {n : Nat} {v : Byte} {s t : State} (h : storeTo f n v s = .next t) :
    t.cycles = s.cycles + n := by
  obtain ⟨ea, rfl⟩ := storeTo_next h
  rfl

theorem modifyAt_cycles {f : AddrForm} {n : Nat} {effect : Byte → Flags → Byte × Flags} {s t : State}
    (h : modifyAt f n effect s = .next t) : t.cycles = s.cycles + n := by
  obtain ⟨ea, b, rfl⟩ := modifyAt_next h
  rfl

theorem shiftArg_cycles {sh : Byte → Bool → Shifted} {n : Nat} {s t : State} {arg : Arg}
    (h : shiftArg sh n s arg = .next t) : t.cycles = s.cycles + n := by
  obtain ⟨-, r, -, rfl⟩ | ⟨ea, b, r, -, rfl⟩ := shiftArg_next h
  · rfl
  · rfl

/-- What a branch adds to `cycles` (R320). -/
theorem branchIf_cycles {cond : Bool} {off : Byte} {s t : State} (h : branchIf cond off s = .next t) :
    t.cycles = s.cycles +
      (2 + if cond then 1 + (pageDiffers s.pc (branchTarget s.pc off)).toNat else 0) := by
  rw [branchIf_eq] at h
  cases h
  cases cond with
  | false => rfl
  | true => exact congrArg (s.cycles + ·) (Nat.add_assoc 2 1 _)

end Sys2Proof.Machine

namespace Sys2Proof

theorem Arg.eq_rel_of_offset {arg : Arg} {off : Byte} (h : arg.offset = some off) : arg = .rel off := by
  cases arg with
  | rel b => cases h; rfl
  | _ => cases h

/-- The mnemonics marked with the page penalty read an operand (R472). -/
theorem Mnemonic.readsOperand_of_marked :
    ∀ m ∈ [Mnemonic.lda, .ldx, .ldy, .adc, .sbc, .and, .ora, .eor, .cmp], m.readsOperand = true := by
  decide

theorem Instr.readsOperand_of_pagePenalty {i : Instr} (hp : i.pagePenalty = true) :
    i.mnemonic.readsOperand = true := by
  obtain ⟨hm, -⟩ := Bool.and_eq_true_iff.1 hp
  exact Mnemonic.readsOperand_of_marked _ (List.contains_iff_mem.1 hm)

end Sys2Proof

namespace Sys2Proof.Machine

theorem branchExtra_of_not_taken {i : Instr} {s : State} (ht : i.taken s.flags = false) : branchExtra i s = 0 := by
  rw [branchExtra, ht]
  cases i.arg <;> rfl

/-- An instruction that reads no operand pays no page penalty. -/
theorem cost_of_not_reads {i : Instr} (hr : i.mnemonic.readsOperand = false) (s : State) :
    cost i s = i.baseCost + branchExtra i s := by
  have hp : i.pagePenalty = false := eq_false_of_ne_true fun hp => by
    rw [Instr.readsOperand_of_pagePenalty hp] at hr
    cases hr
  rw [cost, hp]
  rfl

/-- JMP costs 3, and 5 through a pointer (R366, R367). -/
theorem jumpArg_cycles {s t : State} {arg : Arg} (h : jumpArg s arg = .next t) :
    t.cycles = s.cycles + if arg.mode = .ind then 5 else 3 := by
  cases arg with
  | abs w => cases h; rfl
  | ind ptr =>
    rw [jumpArg, exec_jmpInd, execJmpInd_eq] at h
    cases h
    rfl
  | _ => cases h

/-- Every instruction adds its cost (R470). -/
theorem exec_cycles {i : Instr} {s t : State} (h : exec i s = .next t) : t.cycles = s.cycles + cost i s := by
  rw [exec_eq_runMnemonic] at h
  cases hm : i.mnemonic <;> rw [hm] at h
  case lda | ldx | ldy | adc | sbc | and | ora | eor | cmp | cpx | cpy | bit =>
    have hr : i.mnemonic.readsOperand = true := by rw [hm]; rfl
    obtain ⟨src, hsrc, h⟩ := withOperand_next h
    rw [cost_of_source hr hsrc]
    exact readThen_cycles h fun _ _ => rfl
  all_goals
    have hr : i.mnemonic.readsOperand = false := by rw [hm]; rfl
    rw [cost_of_not_reads hr]
  case bpl | bmi | bvc | bvs | bcc | bcs | bne | beq =>
    obtain ⟨off, hoff, h⟩ := withOperand_next h
    rw [branchIf_cycles h, Instr.baseCost, branchExtra, Instr.taken, hm, Arg.eq_rel_of_offset hoff]
  all_goals
    have ht : i.taken s.flags = false := by rw [Instr.taken, hm]
    rw [branchExtra_of_not_taken ht, Nat.add_zero]
  case sta | stx | sty =>
    obtain ⟨f, -, h⟩ := withOperand_next h
    exact storeTo_cycles h
  case inc | dec =>
    obtain ⟨f, -, h⟩ := withOperand_next h
    exact modifyAt_cycles h
  case asl | lsr | rol | ror => exact shiftArg_cycles h
  all_goals rw [Instr.baseCost, hm]
  case jsr =>
    obtain ⟨w, -, h⟩ := withOperand_next h
    cases h
    rfl
  case jmp => exact jumpArg_cycles h
  case pla | plp | rts | rti | brk =>
    simp only [runMnemonic, exec_pla, execPla_eq, exec_plp, execPlp_eq, exec_rts, execRts_eq, exec_rti, execRti_eq,
      exec_brk, execBrk_eq] at h
    cases h
    rfl
  case inx | iny | dex | dey | tax | txa | tay | tya | tsx | txs | sec | clc | sei | cli | sed | cld | clv | nop | pha
  | php | stop =>
    cases h
    rfl

end Sys2Proof.Machine
end

/-! PROOF. The reset (R450 to R458): what a successful one answers, and what its memories hold. -/
section

namespace Sys2Proof.Machine

/-- PC from the reset vector, which is in ROM and reports nothing (R89, R455). -/
theorem State.loadResetVector_eq (s : State) :
    s.loadResetVector = s.setPc (word (s.peek 0xFFFD) (s.peek 0xFFFC)) := by
  have hmapped : ∀ k ∈ [resetVector, resetVector + 1], unmapped k = false :=
    List.forall_mem_cons.2 ⟨by decide, List.forall_mem_singleton.2 (by decide)⟩
  rw [State.loadResetVector, State.readWord_eq, State.afterReads_mapped s hmapped]
  rfl

/-- A reset answers only under a valid configuration and for an image long enough. -/
theorem reset_next {cfg : Config} {image : List Byte} {t : State} (h : reset cfg image = .next t) :
    imageMinSize ≤ image.length ∧ t = (State.initial cfg image).loadResetVector := by
  cases hv : cfg.valid with
  | false => rw [reset_invalid hv] at h; cases h
  | true =>
    obtain hl | hl := Nat.lt_or_ge image.length imageMinSize
    · rw [reset_short hv hl] at h; cases h
    · rw [reset_long hv hl] at h
      cases h
      exact ⟨hl, rfl⟩

theorem wf_initial (cfg : Config) {image : List Byte} (hl : imageMinSize ≤ image.length) :
    (State.initial cfg image).wf = true := by
  refine (State.wf_iff _).2 ⟨Memory.ofBytes_wf _ (List.length_take_le _ _), ?_, ?_⟩
  · exact Memory.ofBytes_wf _ (List.length_take_le _ _)
  · exact List.length_take_of_le ((Nat.le_add_right _ _).trans hl)

/-- RAM holds RAM_INIT (R456), and 0x00 past its end (log entry 3). -/
theorem initial_ram_read (cfg : Config) (image : List Byte) {k : Nat} (hk : k < ramSize) :
    (State.initial cfg image).ram.read k = cfg.ramInit.getD k 0x00 := by
  have hread := Memory.read_ofBytes (cfg.ramInit.take ramSize) 0 k
  rw [Nat.zero_add] at hread
  rw [State.initial, hread]
  simp [List.getElem?_take_of_lt hk]

/-- The default parameters and an image of zeros (log entries 1 to 3). -/
theorem initial_zeros (n : Nat) (hn : headerSize ≤ n) :
    State.initial Config.default (List.replicate n 0x00) = State.reset := by
  have hheader : (List.replicate n (0x00 : Byte)).take headerSize = List.replicate headerSize 0x00 := by
    rw [List.take_replicate, Nat.min_eq_left hn]
  rw [State.initial, hheader, List.drop_replicate, List.take_replicate, Memory.ofBytes_zeros]
  rw [Config.default, List.take_replicate, Memory.ofBytes_zeros]
  rfl

end Sys2Proof.Machine
end

/-! PROOF. The canonical form of a memory is unique: the first listed index of a canonical memory is the first that does
not read as 0x00. -/
section

namespace Sys2Proof.Machine

theorem Memory.wfFrom_cons {bound low j : Nat} {b : Byte} {m : Memory}
    (h : Memory.wfFrom bound low ((j, b) :: m) = true) :
    low ≤ j ∧ j < bound ∧ b ≠ 0x00 ∧ Memory.wfFrom bound (j + 1) m = true := by
  simpa [Memory.wfFrom, and_assoc] using h

/-- Where the first listed byte of a canonical memory reads as it is, another canonical memory lists one at or before. -/
theorem Memory.exists_le_of_read_cons {bound low low' j : Nat} {b : Byte} {m m' : Memory}
    (h : Memory.wfFrom bound low ((j, b) :: m) = true) (h' : Memory.wfFrom bound low' m' = true)
    (hread : Memory.read ((j, b) :: m) j = Memory.read m' j) : ∃ j' b' n', m' = (j', b') :: n' ∧ j' ≤ j := by
  obtain ⟨-, -, hb, -⟩ := Memory.wfFrom_cons h
  rw [Memory.read_cons, if_pos rfl] at hread
  cases m' with
  | nil => exact absurd hread hb
  | cons e n' =>
    obtain ⟨j', b'⟩ := e
    obtain ⟨-, -, -, hn'⟩ := Memory.wfFrom_cons h'
    refine ⟨j', b', n', rfl, Nat.not_lt.1 fun hlt => hb (hread.trans ?_)⟩
    rw [Memory.read_cons, if_neg hlt.ne']
    exact Memory.read_below hn' (Nat.lt_succ_of_lt hlt)

/-- Canonical memories that read the same list the same. -/
theorem Memory.eq_of_read_eq {bound low low' : Nat} {m m' : Memory} (h : Memory.wfFrom bound low m = true)
    (h' : Memory.wfFrom bound low' m' = true) (hread : ∀ k, m.read k = m'.read k) : m = m' := by
  induction m generalizing m' low low' with
  | nil =>
    cases m' with
    | nil => rfl
    | cons e n' =>
      obtain ⟨_, _, _, hnil, -⟩ := Memory.exists_le_of_read_cons h' h (hread e.1).symm
      cases hnil
  | cons e n ih =>
    obtain ⟨j, b⟩ := e
    obtain ⟨j', b', n', rfl, hle⟩ := Memory.exists_le_of_read_cons h h' (hread j)
    obtain ⟨_, _, _, heq, hle'⟩ := Memory.exists_le_of_read_cons h' h (hread j').symm
    cases heq
    obtain rfl := Nat.le_antisymm hle hle'
    obtain ⟨-, -, -, hn⟩ := Memory.wfFrom_cons h
    obtain ⟨-, -, -, hn'⟩ := Memory.wfFrom_cons h'
    have hb : b = b' := by
      have hj := hread j'
      rwa [Memory.read_cons, Memory.read_cons, if_pos rfl, if_pos rfl] at hj
    have hrest : n = n' := ih hn hn' fun k => by
      by_cases hk : j' = k
      · rw [Memory.read_below hn (hk ▸ Nat.lt_succ_self j'), Memory.read_below hn' (hk ▸ Nat.lt_succ_self j')]
      · have hk' := hread k
        rwa [Memory.read_cons, Memory.read_cons, if_neg hk, if_neg hk] at hk'
    rw [hb, hrest]

end Sys2Proof.Machine
end

/-! PROOF. The obligations of 70_reset_and_hazards.md, and those on the reset state and on the memories. -/
section

open Sys2Proof Sys2Proof.Machine

/-- Settles O13: the memories of `State.initial` are made from byte strings of at most their size, and loading PC
changes none of them. -/
theorem loadedStateIsWf : Obligations.LoadedStateIsWf := by
  intro cfg image t h
  obtain ⟨hl, rfl⟩ := reset_next h
  rw [State.loadResetVector_eq]
  exact State.wf_of_eq (wf_initial cfg hl) rfl rfl rfl

/-- Settles O19: `State.initial` takes the parameters, and PC is the word at the vector in ROM. -/
theorem resetLoadsParametersAndVector : Obligations.ResetLoadsParametersAndVector := by
  intro cfg image hv hl
  refine ⟨_, reset_long hv hl, ?_⟩
  rw [State.loadResetVector_eq]
  exact ⟨rfl, rfl, rfl, rfl, rfl, rfl, rfl, rfl, rfl, fun k hk => initial_ram_read cfg image hk, rfl, rfl⟩

/-- Settles O57, shape by shape of operand use. -/
theorem cycleCosts : Obligations.CycleCosts :=
  fun _ _ _ h => exec_cycles h

/-- Settles O12: empty memories are canonical. -/
theorem resetIsWf : Obligations.ResetIsWf := rfl

/-- Settles O18, field by field. -/
theorem resetValues : Obligations.ResetValues :=
  ⟨rfl, rfl, rfl, rfl, rfl, rfl, rfl, rfl, Memory.read_nil, Memory.read_nil, rfl, rfl, rfl⟩

/-- Settles O21: the image is long enough, its zeros are listed nowhere, and the vector in them is 0x0000. -/
theorem zeroImageGivesReset : Obligations.ZeroImageGivesReset := by
  have hl : imageMinSize ≤ (List.replicate 32784 (0x00 : Byte)).length := by rw [List.length_replicate]; decide
  rw [Obligations.ZeroImageGivesReset, reset_long rfl hl, initial_zeros _ (by decide), State.loadResetVector_eq]
  rfl

/-- Settles O24, by induction on the two lists together. -/
theorem equalContentsEqualMemories : Obligations.EqualContentsEqualMemories :=
  fun _ _ _ h h' hread => Memory.eq_of_read_eq h h' hread

end
